-- ==== Sys2Proof/Word.lean ====
section
/-! DEFINITION. The two word types of the block (00_scope.md R13): everything the spec treats as bits is one of them. -/

namespace Sys2Proof

/-- A byte: a frame or wire byte, a frame type, the ERR set, the retry counter (R13, R25, R38). -/
abbrev Byte := BitVec 8

/-- A command word or a register value (R13: "The command word and every register are 32 bits"). -/
abbrev Word := BitVec 32

end Sys2Proof
end

