-- ==== Sys2Proof/Machine/Operands.lean ====
section
/-! DEFINITION. The fields of a command word and the three operand forms (30_encoding.md R71, R72). -/

namespace Sys2Proof.Machine

/-- OP, bits [31:24] (R71). -/
def opField (w : Word) : Byte := w.extractLsb' 24 8

/-- A, bits [23:16]: the byte operand, used as is (R71, R72). -/
def byteOperand (w : Word) : Byte := w.extractLsb' 16 8

/-- B, bits [15:0] (R71). -/
def bField (w : Word) : BitVec 16 := w.extractLsb' 0 16

/-- The flag operand `ack = w[0]` (R72). -/
def ackOperand (w : Word) : Bool := w.getLsbD 0

/-- The mask operand `mask = w[7:0]` (R72). -/
def maskOperand (w : Word) : Byte := w.extractLsb' 0 8

/-- `zext_32` of a byte (R72: "Where a rule uses an operand in a wider context, it is zero-extended"). -/
def zext32 (b : Byte) : Word := b.setWidth 32

/-- A byte in its place A of a command word: `b << 16` (R80). -/
def placeByte (b : Byte) : Word := zext32 b <<< 16

/-- The flag in its place, bit 0 of a command word (R80). -/
def placeAck (a : Bool) : Word := (BitVec.ofBool a).setWidth 32

end Sys2Proof.Machine
end

