-- ==== Sys2Proof/Syntax.lean ====
section
/-! DEFINITION. The commands of the block, one constructor per row of spec/opcode_table.json (30_encoding.md R74), and
the assembler's source forms (R80, R81). -/

namespace Sys2Proof

/-- A legal command with its operands (R72: a byte, a flag or a mask, each of exactly its width). -/
inductive Instr where
  | nop
  | reset
  | init
  | run
  | tick
  | setExtEventAck
  | setExtEventNack
  | stageClear
  | stageByte (b8 : Byte)
  | enqueue (type8 : Byte) (ack1 : Bool)
  | sendDebug (ack1 : Bool)
  | crcInit
  | crcByte (b8 : Byte)
  | crcRead
  | rxByte (b8 : Byte)
  | clrErr (mask8 : Byte)
deriving DecidableEq, Repr

/-- The event operand of an assembler line `SET_EXT_EVENT` (R80): the two names it has, or any other word. -/
inductive EventName where
  | ack
  | nack
  | other
deriving DecidableEq, Repr

/-- A source line of the assembler: the fifteen command forms of R80 and the pseudo-instructions of R81, their numeric
operands as the programmer wrote them, of any size. -/
inductive Asm where
  | nop
  | reset
  | init
  | run
  | tick
  | setExtEvent (ev : EventName)
  | stageClear
  | stageByte (b8 : Nat)
  | enqueue (type8 ack1 : Nat)
  | sendDebug (ack1 : Nat)
  | crcInit
  | crcByte (b8 : Nat)
  | crcRead
  | rxByte (b8 : Nat)
  | clrErr (mask8 : Nat)
  /-- `STAGE "bytes"` or `STAGE b0, b1, ...` -/
  | stage (bytes : List Nat)
  /-- `SEND type8, ack1, "bytes"` -/
  | send (type8 ack1 : Nat) (bytes : List Nat)
  /-- `DEBUG ack1, "text"` -/
  | debug (ack1 : Nat) (text : List Nat)
  /-- `CRC_BYTES "bytes"` -/
  | crcBytes (bytes : List Nat)
  /-- `CRC "bytes"` -/
  | crc (bytes : List Nat)
  /-- `RX_BYTES b0, b1, ...` -/
  | rxBytes (bytes : List Nat)
  /-- `RX_FRAME type8, "payload"` -/
  | rxFrame (type8 : Nat) (payload : List Nat)
  /-- `ITERATE` -/
  | iterate
  /-- `TICKS k` -/
  | ticks (k : Nat)
  /-- `CLR_ERR_ALL` -/
  | clrErrAll
deriving DecidableEq, Repr

end Sys2Proof
end

