-- ==== Sys2Proof/Decode.lean ====
section
/-! DEFINITION. The decoder, total on 32-bit words and rejecting by name (30_encoding.md R74, R75, R77), and the encoder
written from the same table (R80). -/

namespace Sys2Proof

open Sys2Proof.Machine

/-- The sixteen rows of R74. -/
inductive Row where
  | nop | reset | init | run | tick | setExtEventAck | setExtEventNack | stageClear
  | stageByte | enqueue | sendDebug | crcInit | crcByte | crcRead | rxByte | clrErr
deriving DecidableEq, Repr

/-- The rows in the table's order. -/
def Row.all : List Row :=
  [.nop, .reset, .init, .run, .tick, .setExtEventAck, .setExtEventNack, .stageClear,
   .stageByte, .enqueue, .sendDebug, .crcInit, .crcByte, .crcRead, .rxByte, .clrErr]

/-- The column "match" of R74. -/
def Row.pat : Row → Word
  | .nop => 0x00000000
  | .reset => 0x01000000
  | .init => 0x02000000
  | .run => 0x03000000
  | .tick => 0x04000000
  | .setExtEventAck => 0x05010000
  | .setExtEventNack => 0x05020000
  | .stageClear => 0x06000000
  | .stageByte => 0x07000000
  | .enqueue => 0x08000000
  | .sendDebug => 0x09000000
  | .crcInit => 0x0A000000
  | .crcByte => 0x0B000000
  | .crcRead => 0x0C000000
  | .rxByte => 0x0D000000
  | .clrErr => 0x0E000000

/-- The column "mask" of R74. -/
def Row.mask : Row → Word
  | .nop => 0xFFFFFFFF
  | .reset => 0xFFFFFFFF
  | .init => 0xFFFFFFFF
  | .run => 0xFFFFFFFF
  | .tick => 0xFFFFFFFF
  | .setExtEventAck => 0xFFFFFFFF
  | .setExtEventNack => 0xFFFFFFFF
  | .stageClear => 0xFFFFFFFF
  | .stageByte => 0xFF00FFFF
  | .enqueue => 0xFF00FFFE
  | .sendDebug => 0xFFFFFFFE
  | .crcInit => 0xFFFFFFFF
  | .crcByte => 0xFF00FFFF
  | .crcRead => 0xFFFFFFFF
  | .rxByte => 0xFF00FFFF
  | .clrErr => 0xFFFFFF00

/-- R74: "A word `w` is the listed command when `(w AND mask) = match`." -/
def Row.hits (r : Row) (w : Word) : Bool := w &&& r.mask == r.pat

/-- The command of a row, its operands taken from the word (R72, R77). -/
def Row.build (w : Word) : Row → Instr
  | .nop => .nop
  | .reset => .reset
  | .init => .init
  | .run => .run
  | .tick => .tick
  | .setExtEventAck => .setExtEventAck
  | .setExtEventNack => .setExtEventNack
  | .stageClear => .stageClear
  | .stageByte => .stageByte (byteOperand w)
  | .enqueue => .enqueue (byteOperand w) (ackOperand w)
  | .sendDebug => .sendDebug (ackOperand w)
  | .crcInit => .crcInit
  | .crcByte => .crcByte (byteOperand w)
  | .crcRead => .crcRead
  | .rxByte => .rxByte (byteOperand w)
  | .clrErr => .clrErr (maskOperand w)

/-- Why a word is ILLEGAL: the three cases of R75. -/
inductive DecodeError where
  /-- (a) OP in 0x0F..0xFF -/
  | reservedOpcode
  /-- (b) a legal OP with a nonzero bit in a must-be-zero position -/
  | reservedBits
  /-- (c) SET_EXT_EVENT with A not in {0x01, 0x02} -/
  | unknownEvent
deriving DecidableEq, Repr

/-- The case of R75 an unmatched word falls under; where (b) and (c) both apply it names (c). -/
def illegalReason (w : Word) : DecodeError :=
  if 0x0E < (opField w).toNat then .reservedOpcode
  else if opField w = 0x05 ∧ byteOperand w ≠ 0x01 ∧ byteOperand w ≠ 0x02 then .unknownEvent
  else .reservedBits

/-- R77: the first row of R74 that the word matches, or ILLEGAL. -/
def decode (w : Word) : Except DecodeError Instr :=
  match Row.all.find? (fun r => r.hits w) with
  | some r => .ok (r.build w)
  | none => .error (illegalReason w)

/-- R80: the word the assembler writes for a command. -/
def encode : Instr → Word
  | .nop => 0x00000000
  | .reset => 0x01000000
  | .init => 0x02000000
  | .run => 0x03000000
  | .tick => 0x04000000
  | .setExtEventAck => 0x05010000
  | .setExtEventNack => 0x05020000
  | .stageClear => 0x06000000
  | .stageByte b => 0x07000000 ||| placeByte b
  | .enqueue t a => 0x08000000 ||| placeByte t ||| placeAck a
  | .sendDebug a => 0x09000000 ||| placeAck a
  | .crcInit => 0x0A000000
  | .crcByte b => 0x0B000000 ||| placeByte b
  | .crcRead => 0x0C000000
  | .rxByte b => 0x0D000000 ||| placeByte b
  | .clrErr m => 0x0E000000 ||| zext32 m

/-- The row of R74 a command belongs to. -/
def Instr.row : Instr → Row
  | .nop => .nop
  | .reset => .reset
  | .init => .init
  | .run => .run
  | .tick => .tick
  | .setExtEventAck => .setExtEventAck
  | .setExtEventNack => .setExtEventNack
  | .stageClear => .stageClear
  | .stageByte _ => .stageByte
  | .enqueue _ _ => .enqueue
  | .sendDebug _ => .sendDebug
  | .crcInit => .crcInit
  | .crcByte _ => .crcByte
  | .crcRead => .crcRead
  | .rxByte _ => .rxByte
  | .clrErr _ => .clrErr

/-- The command word of `nbits` bits numbered as spec/opcode_table.json numbers them, the bits above zero (R70: every
command is exactly one 32-bit word). -/
def tableWord (nbits w : Nat) : Word := BitVec.ofNat 32 (w % 2 ^ nbits)

/-- The command the decoder reads from a table word; no command is longer than 32 bits (R70, R78). -/
def decodeTableWord (nbits w : Nat) : Option Instr :=
  if nbits ≤ 32 then (decode (tableWord nbits w)).toOption else none

end Sys2Proof
end

