-- ==== Sys2Proof/Config.lean ====
section
/-! DEFINITION. The implementation parameters of 00_scope.md section 3, fixed when a block instance is built (R5 to R14). -/

namespace Sys2Proof

/-- What the receive FSM does with a failed frame besides recording it (R10). -/
inductive RxErrPolicy where
  /-- encoded 0: the frame is dropped -/
  | silent
  /-- encoded 1: a NACK frame is sent to the peer -/
  | nack
deriving DecidableEq, Repr

/-- The named parameters, before their bounds are checked. -/
structure Params where
  /-- `P_MAX_RETRIES`, R5 -/
  maxRetries : Nat
  /-- `P_ACK_TIMEOUT` in ticks, R6 -/
  ackTimeout : Nat
  /-- `P_MAX_PAYLOAD` in bytes, R7 -/
  maxPayload : Nat
  /-- `P_QUEUE_DEPTH` in requests, R8 -/
  queueDepth : Nat
  /-- `P_TYPE_ACK`, R9 -/
  typeAck : Byte
  /-- `P_TYPE_NACK`, R9 -/
  typeNack : Byte
  /-- `P_TYPE_DEBUG`, R9 -/
  typeDebug : Byte
  /-- `P_RX_ERR_POLICY`, R10 -/
  rxErrPolicy : RxErrPolicy
  /-- `P_CRC_POLY`, R11 -/
  crcPoly : Word
  /-- `P_CRC_INIT`, R11 -/
  crcInit : Word
  /-- `P_CRC_REFIN`, R11 -/
  crcRefin : Bool
  /-- `P_CRC_REFOUT`, R11 -/
  crcRefout : Bool
  /-- `P_CRC_XOROUT`, R11 -/
  crcXorout : Word
  /-- `P_BASE`, the bus address of the register window, R12 -/
  base : Nat
deriving DecidableEq, Repr

/-- The bounds of R5 to R12 as R14 lists them. -/
def Params.wf (p : Params) : Bool :=
  decide (p.maxRetries ≤ 254)
    && decide (p.ackTimeout < 2 ^ 31)
    && decide (1 ≤ p.maxPayload) && decide (p.maxPayload ≤ 65535)
    && decide (1 ≤ p.queueDepth) && decide (p.queueDepth ≤ 255)
    && decide (p.typeAck ≠ p.typeNack) && decide (p.typeAck ≠ p.typeDebug) && decide (p.typeNack ≠ p.typeDebug)
    && decide (p.base % 64 = 0)

/-- A configuration of the hardware. R14: "A configuration that breaks a bound of rules R5 to R12 does not
describe this hardware, and a model refuses to build it": a value of this type carries the proof of its bounds. -/
structure Config extends Params where
  /-- the bounds hold -/
  valid : toParams.wf = true := by decide
deriving DecidableEq, Repr

/-- R14, R189: a deployment whose parameters break a bound is refused (`none`). -/
def Config.build (p : Params) : Option Config :=
  if h : p.wf = true then some { toParams := p, valid := h } else none

/-- The defaults of R5 to R11; `P_BASE` has no default (R12) and stays an argument. -/
def Params.standard (base : Nat) : Params where
  maxRetries := 2
  ackTimeout := 50
  maxPayload := 64
  queueDepth := 8
  typeAck := 0x06
  typeNack := 0x15
  typeDebug := 0x44
  rxErrPolicy := .silent
  crcPoly := 0x04C11DB7
  crcInit := 0xFFFFFFFF
  crcRefin := true
  crcRefout := true
  crcXorout := 0xFFFFFFFF
  base := base

/-- "The" block of the spec with its window on the `page`-th 64-byte boundary of the bus (R5 to R12). -/
def Config.standard (page : Nat) : Config where
  toParams := Params.standard (64 * page)
  valid := by simp [Params.wf, Params.standard]

/-- The default block with the alternative preset CRC-32/MPEG-2 of R127. -/
def Config.mpeg2 : Config where
  toParams := { Params.standard 0 with crcRefin := false, crcRefout := false, crcXorout := 0 }
  valid := by decide

end Sys2Proof
end

