-- ==== Sys2Proof/Machine/State.lean ====
section
/-! DEFINITION. The state of the block (10_state.md R22 to R38), its three output channels (R44 to R46), its register port, and the
state after power-on reset (R49, R187). -/

namespace Sys2Proof.Machine

/-- The transmit FSM state (R23). -/
inductive TxState where
  /-- 0, `poll_pending_transfer` -/
  | poll
  /-- 1, `transmit_packet` -/
  | transmit
deriving DecidableEq, Repr

/-- What the external-event mailbox holds (R24). -/
inductive ExtEvent where
  /-- 0 -/
  | none
  /-- 1, `ack_received` -/
  | ack
  /-- 2, `nack_received` -/
  | nack
deriving DecidableEq, Repr

/-- The receive FSM state (R35). -/
inductive RxState where
  /-- 0, waiting for a flag -/
  | hunt
  /-- 1, inside a frame or between flags -/
  | data
  /-- 2, the previous byte was the escape 0x7D -/
  | esc
deriving DecidableEq, Repr

/-- A transfer request (R32). Its length is `payload.length`. -/
structure Request where
  type : Byte
  ackExpected : Bool
  payload : List Byte
deriving DecidableEq, Repr, Inhabited

/-- A record of the REPORT channel (R45). -/
structure Report where
  code : Byte
  type : Byte
  count : Byte
deriving DecidableEq, Repr

/-- A record of the DISPATCH channel (R46). -/
structure Dispatched where
  type : Byte
  payload : List Byte
deriving DecidableEq, Repr

/-- The eight error events of 60_exceptions.md R173, in the order of their codes 1 to 8. -/
inductive Err where
  | checksumMismatch
  | lengthMismatch
  | queueFull
  | retryBudgetExhausted
  | stageOverflow
  | illegalCommand
  | extEventOverrun
  | frameAborted
deriving DecidableEq, Repr

/-- The state record `S` of R22. -/
structure Block where
  /-- R23 -/
  txState : TxState
  /-- R24 -/
  extEvt : ExtEvent
  /-- R25 -/
  retryCnt : Byte
  /-- R26 -/
  cur : Option Request
  /-- R27 -/
  now : Word
  /-- R28 -/
  tmrArmed : Bool
  /-- R29 -/
  tmrDeadline : Word
  /-- R30 -/
  tmrRaised : Bool
  /-- R31, oldest first -/
  q : List Request
  /-- R33 -/
  stage : List Byte
  /-- R33 -/
  stageOvf : Bool
  /-- R34, non-reflected orientation -/
  crcAcc : Word
  /-- R35 -/
  rxState : RxState
  /-- R36 -/
  rxBuf : List Byte
  /-- R37 -/
  result : Word
  /-- R38 -/
  err : Byte
deriving DecidableEq, Repr

/-- A bus access that has reached the block's port: `MemRead(addr, size)` and `MemWrite(addr, size, data)` of 00_scope.md
section 5, `size` in bytes. The data of a write narrower than 32 bits is of no account: the access is refused (R55). -/
inductive Access where
  | read (size addr : Nat)
  | write (size addr : Nat) (data : Word)
deriving DecidableEq, Repr

/-- The whole system's state around `S` (R84; 10_state.md section 10: "A model represents each channel as a list in the
state of the whole system, outside `S`"). -/
structure State where
  /-- the parameters, fixed for the instance (R189) -/
  cfg : Config
  /-- the state record `S` -/
  blk : Block
  /-- TXD, R44 -/
  txd : List Byte
  /-- REPORT, R45 -/
  report : List Report
  /-- DISPATCH, R46 -/
  dispatch : List Dispatched
  /-- the model's own: the agents' accesses in the order they reach the port (R56, R65), none of them served yet -/
  bus : List Access
  /-- the model's own: the values register reads have returned to the agents, oldest first (R53) -/
  reads : List Word
deriving DecidableEq, Repr

/-- The machine has no fault: R179, "There is no trap", and no error stops the block (R174). -/
inductive Fault where
deriving DecidableEq, Repr

/-- Why a step has no answer. -/
inductive Refusal where
  /-- raised by `exec` for a command that has no meaning in the model; no arm raises it; safe -/
  | notModelled (mnemonic : String)
  /-- raised by the port for an access that is not 32 bits wide (R55: "A model refuses such an access"); safe -/
  | narrowAccess
  /-- raised by the port for an access outside the window that selects the block (R55); safe -/
  | outsideWindow
  /-- raised by the port for an access that is not word-aligned (R55); safe -/
  | misalignedAccess
deriving DecidableEq, Repr

/-- The reset values of R49. -/
def Block.reset (c : Config) : Block where
  txState := .poll
  extEvt := .none
  retryCnt := 0
  cur := none
  now := 0
  tmrArmed := false
  tmrDeadline := 0
  tmrRaised := false
  q := []
  stage := []
  stageOvf := false
  crcAcc := c.crcInit
  rxState := .hunt
  rxBuf := []
  result := 0
  err := 0

/-- Power-on reset of the instance built with the parameters `c` (R187): `S` at its reset values, the three channels
empty, no access served or waiting. -/
def State.powerOn (c : Config) : State where
  cfg := c
  blk := Block.reset c
  txd := []
  report := []
  dispatch := []
  bus := []
  reads := []

/-- Power-on reset of the block with the default parameters. DESIGN CHOICE (notes/assumptions/1.md), unsafe: `P_BASE` is
OPEN (R12) and one value had to stand here; every other parameter set is `State.powerOn`. -/
def State.reset : State := State.powerOn (Config.standard 0)

end Sys2Proof.Machine

namespace Sys2Proof

/-- The free value (notes/assumptions/3.md): the request that RUN finds in TRANSMIT when there is no current request, a
state that invariant I2 of R48 rules out of every run and for which no rule gives a value. It may depend on all of `S`
(R50: there is no other state). -/
opaque Config.absentCur : Machine.Block → Machine.Request

end Sys2Proof
end

