-- ==== Sys2Proof/Machine/Flags.lean ====
section
/-! DEFINITION. Every flag the block computes: the ERR bits (R41, R173), the events and bounds its rules test (R101, R142,
R150), and the STATUS register (R40). -/

namespace Sys2Proof.Machine

/-- The error codes of R173. -/
def Err.code : Err → Nat
  | .checksumMismatch => 1
  | .lengthMismatch => 2
  | .queueFull => 3
  | .retryBudgetExhausted => 4
  | .stageOverflow => 5
  | .illegalCommand => 6
  | .extEventOverrun => 7
  | .frameAborted => 8

/-- R173: "Code c sets ERR bit c - 1". -/
def Err.bit (e : Err) : Nat := e.code - 1

/-- The ERR set that holds this one error. -/
def Err.flag (e : Err) : Byte := 1#8 <<< e.bit

/-- R101: the modular deadline test. -/
def reached (now deadline : Word) : Bool := decide ((now - deadline).toNat < 2 ^ 31)

/-- The internal event `pending_packet` (R142), `not is_empty()` (R113). -/
def Block.pendingPacket (S : Block) : Bool := !S.q.isEmpty

/-- `len(S.q) = P_QUEUE_DEPTH` (R40, R110). -/
def Block.qFull (c : Config) (S : Block) : Bool := decide (S.q.length = c.queueDepth)

/-- The staging buffer holds P_MAX_PAYLOAD bytes (R109). -/
def Block.stageFull (c : Config) (S : Block) : Bool := decide (S.stage.length = c.maxPayload)

/-- The capacity of the receive buffer, P_MAX_PAYLOAD + 7 bytes (R7, R36). -/
def rxCapacity (c : Config) : Nat := c.maxPayload + 7

/-- The receive buffer is full (R163). -/
def Block.rxFull (c : Config) (S : Block) : Bool := decide (S.rxBuf.length = rxCapacity c)

/-- The mailbox holds an event nothing has consumed (R150). -/
def Block.mailboxFull (S : Block) : Bool := decide (S.extEvt ≠ .none)

/-- The encoding of the transmit FSM state (R22). -/
def TxState.bits : TxState → BitVec 1
  | .poll => 0
  | .transmit => 1

/-- The encoding of the mailbox (R22). -/
def ExtEvent.bits : ExtEvent → BitVec 2
  | .none => 0
  | .ack => 1
  | .nack => 2

/-- The encoding of the receive FSM state (R22). -/
def RxState.bits : RxState → BitVec 2
  | .hunt => 0
  | .data => 1
  | .esc => 2

/-- The encoding of the receive error policy (R10, R43). -/
def policyBit : RxErrPolicy → BitVec 1
  | .silent => 0
  | .nack => 1

/-- CUR_ACK_EXPECTED of R40: 0 when there is no current request. -/
def Block.curAckExpected (S : Block) : Bool :=
  match S.cur with
  | some r => r.ackExpected
  | none => false

/-- STATUS (R40), its fields from bit 31 down to bit 0. -/
def Block.status (c : Config) (S : Block) : Word :=
  BitVec.ofNat 8 S.q.length ++ S.retryCnt ++ 0#4
    ++ BitVec.ofBool S.curAckExpected ++ BitVec.ofBool S.cur.isSome
    ++ BitVec.ofBool S.stageOvf ++ BitVec.ofBool (S.qFull c) ++ BitVec.ofBool S.q.isEmpty
    ++ S.rxState.bits ++ BitVec.ofBool S.tmrRaised ++ BitVec.ofBool S.tmrArmed
    ++ S.extEvt.bits ++ S.txState.bits

end Sys2Proof.Machine
end

