-- ==== Sys2Proof/Machine/Ops.lean ====
section
/-! DEFINITION. The shared operations of the commands: the response, the error event, the timer's two internal operations, the
mailbox write, the queue's two ends, and how a command's effect reaches the system's state. -/

namespace Sys2Proof.Machine

/-- What one command appends to the three channels (R84). -/
structure Out where
  txd : List Byte
  report : List Report
  dispatch : List Dispatched
deriving DecidableEq, Repr

/-- A command that appends nothing. -/
def Out.empty : Out := { txd := [], report := [], dispatch := [] }

/-- `S.result <- v` (R37). -/
def Block.setResult (v : Word) (S : Block) : Block := { S with result := v }

/-- `raise E`: the block's only "exception" (R174: it sets the ERR bit "and has no other effect of its own"; R179: nothing is
saved and control is not redirected; R180: there is no return). -/
def Block.raise (e : Err) (S : Block) : Block := { S with err := S.err ||| e.flag }

/-- `tmr_start(d)` (R98). -/
def Block.tmrStart (d : Nat) (S : Block) : Block :=
  { S with tmrDeadline := S.now + BitVec.ofNat 32 d, tmrArmed := true, tmrRaised := false }

/-- `tmr_stop()` (R99): `tmr_raised` and `tmr_deadline` stay (90_conflicts.md C1). -/
def Block.tmrStop (S : Block) : Block := { S with tmrArmed := false }

/-- `post_ext(ev)` (R150): the single-slot mailbox write, and whether it overran. -/
def Block.postExt (ev : ExtEvent) (S : Block) : Bool × Block :=
  let o := S.mailboxFull
  let S := if o then S.raise .extEventOverrun else S
  (o, { S with extEvt := ev })

/-- `dequeue()` (R112): the head and the block without it, or none. -/
def Block.dequeue (S : Block) : Option (Request × Block) :=
  match S.q with
  | [] => none
  | r :: rest => some (r, { S with q := rest })

/-- `enqueue(t, ack)` (R110): the stage's overflow is tested before the queue's capacity (R178). -/
def Block.enqueue (c : Config) (t : Byte) (ack : Bool) (S : Block) : Block :=
  if S.stageOvf then
    (S.raise .stageOverflow).setResult 0x00000500
  else if S.qFull c then
    (S.raise .queueFull).setResult 0x00000300
  else
    Block.setResult 0x00000001 { S with q := S.q ++ [{ type := t, ackExpected := ack, payload := S.stage }] }

/-- The current request `S.cur` as RUN reads it in TRANSMIT. Without one, which I2 of R48 rules out of every run, it is
the free value of notes/assumptions/3.md. -/
def Block.currentRequest (S : Block) : Request :=
  match S.cur with
  | some r => r
  | none => Config.absentCur S

/-- A command that changes `S` alone. -/
def State.onBlock (f : Block → Block) (s : State) : State := { s with blk := f s.blk }

/-- A command's whole effect in one step (R58): the new `S`, and its output appended to the channels (R44 to R46). -/
def State.commit (e : Block × Out) (s : State) : State :=
  { s with
    blk := e.1
    txd := s.txd ++ e.2.txd
    report := s.report ++ e.2.report
    dispatch := s.dispatch ++ e.2.dispatch }

end Sys2Proof.Machine
end

