-- ==== Sys2Proof/Machine/Crc.lean ====
section
/-! DEFINITION. The CRC-32 accumulator (43_crc.md): the CRC function of R119 to R123 and the commands CRC_INIT, CRC_BYTE, CRC_READ. -/

namespace Sys2Proof.Machine

/-- `refl8(b)`: bit i of the value is bit 7-i of b (R119). -/
def refl8 (b : Byte) : Byte := b.reverse

/-- `refl32(x)`: bit i of the value is bit 31-i of x (R119). -/
def refl32 (x : Word) : Word := x.reverse

/-- One of the eight shifts of R121. -/
def crcShift (c : Config) (acc : Word) : Word :=
  if acc.getLsbD 31 then (acc <<< 1) ^^^ c.crcPoly else acc <<< 1

/-- `n` shifts. -/
def crcShifts (c : Config) : Nat → Word → Word
  | 0, acc => acc
  | n + 1, acc => crcShifts c n (crcShift c acc)

/-- `crc_step(acc, b)` (R121). -/
def crcStep (c : Config) (acc : Word) (b : Byte) : Word :=
  let d := if c.crcRefin then refl8 b else b
  crcShifts c 8 (acc ^^^ (d.setWidth 32 <<< 24))

/-- `crc_fold(acc, bytes)` (R122). -/
def crcFold (c : Config) : Word → List Byte → Word
  | acc, [] => acc
  | acc, b :: rest => crcFold c (crcStep c acc b) rest

/-- `crc_final(acc)` (R123). -/
def crcFinal (c : Config) (acc : Word) : Word :=
  (if c.crcRefout then refl32 acc else acc) ^^^ c.crcXorout

/-- `crc32(bytes)` (R123). -/
def crc32 (c : Config) (bytes : List Byte) : Word := crcFinal c (crcFold c c.crcInit bytes)

/-- One of the eight shifts of the reflected form (R128), on `racc = refl32(acc)`. -/
def reflShift (c : Config) (racc : Word) : Word :=
  (racc >>> 1) ^^^ (if racc.getLsbD 0 then refl32 c.crcPoly else 0)

/-- `n` shifts of the reflected form. -/
def reflShifts (c : Config) : Nat → Word → Word
  | 0, racc => racc
  | n + 1, racc => reflShifts c n (reflShift c racc)

/-- `crc_step` in the reflected form (R128): an equivalent way to the same checksum, which no command uses. -/
def reflStep (c : Config) (racc : Word) (b : Byte) : Word := reflShifts c 8 (racc ^^^ b.setWidth 32)

/-- CRC_INIT on `S` (R124). -/
def crcInitOp (c : Config) (S : Block) : Block := Block.setResult 0 { S with crcAcc := c.crcInit }

/-- CRC_BYTE on `S` (R125). -/
def crcByteOp (c : Config) (b : Byte) (S : Block) : Block := Block.setResult 0 { S with crcAcc := crcStep c S.crcAcc b }

/-- CRC_READ on `S` (R126). -/
def crcReadOp (c : Config) (S : Block) : Block := S.setResult (crcFinal c S.crcAcc)

/-- CRC_INIT (R124). -/
def execCrcInit (s : State) : Host.Outcome State Fault Refusal := .next (s.onBlock (crcInitOp s.cfg))

/-- CRC_BYTE b8 (R125). -/
def execCrcByte (b : Byte) (s : State) : Host.Outcome State Fault Refusal := .next (s.onBlock (crcByteOp s.cfg b))

/-- CRC_READ (R126). -/
def execCrcRead (s : State) : Host.Outcome State Fault Refusal := .next (s.onBlock (crcReadOp s.cfg))

end Sys2Proof.Machine
end

