-- ==== Sys2Proof/Machine/Port.lean ====
section
/-! DEFINITION. The housekeeping commands NOP, RESET, CLR_ERR, the illegal command (40_command_port.md R88 to R91), and the register
window's reads (R92; 10_state.md R39 to R43). -/

namespace Sys2Proof.Machine

/-- NOP on `S` (R88). -/
def nopOp (S : Block) : Block := S.setResult 0

/-- RESET on `S` (R89): every field at its reset value, the parameters unchanged. -/
def resetOp (c : Config) (_S : Block) : Block := Block.reset c

/-- CLR_ERR on `S` (R90): the response is ERR as it was. -/
def clrErrOp (mask : Byte) (S : Block) : Block :=
  Block.setResult (zext32 S.err) { S with err := S.err &&& ~~~mask }

/-- An illegal command on `S` (R91). -/
def illegalOp (S : Block) : Block := (S.raise .illegalCommand).setResult 0xFFFFFFFF

/-- NOP (R88). -/
def execNop (s : State) : Host.Outcome State Fault Refusal := .next (s.onBlock nopOp)

/-- RESET (R89): nothing already appended to a channel is retracted. -/
def execReset (s : State) : Host.Outcome State Fault Refusal := .next (s.onBlock (resetOp s.cfg))

/-- CLR_ERR mask8 (R90). -/
def execClrErr (mask : Byte) (s : State) : Host.Outcome State Fault Refusal := .next (s.onBlock (clrErrOp mask))

/-- `exec_illegal` (R91). -/
def execIllegal (s : State) : Host.Outcome State Fault Refusal := .next (s.onBlock illegalOp)

/-- The registers of the window (R39). -/
inductive Reg where
  | cmd | result | status | err | crc | crcRaw | ticks | deadline
  | stageInfo | rxInfo | curInfo | cfg0 | cfg1 | cfg2 | cfg3 | id
deriving DecidableEq, Repr

/-- The registers in the order of their offsets, four bytes apart from 0x00 (R39). -/
def Reg.all : List Reg :=
  [.cmd, .result, .status, .err, .crc, .crcRaw, .ticks, .deadline,
   .stageInfo, .rxInfo, .curInfo, .cfg0, .cfg1, .cfg2, .cfg3, .id]

/-- The register's byte offset from P_BASE (R39). -/
def Reg.offset : Reg → Nat
  | .cmd => 0x00
  | .result => 0x04
  | .status => 0x08
  | .err => 0x0C
  | .crc => 0x10
  | .crcRaw => 0x14
  | .ticks => 0x18
  | .deadline => 0x1C
  | .stageInfo => 0x20
  | .rxInfo => 0x24
  | .curInfo => 0x28
  | .cfg0 => 0x2C
  | .cfg1 => 0x30
  | .cfg2 => 0x34
  | .cfg3 => 0x38
  | .id => 0x3C

/-- STAGE_INFO (R42). -/
def stageInfoReg (S : Block) : Word := 0#16 ++ BitVec.ofNat 16 S.stage.length

/-- RX_INFO (R42). -/
def rxInfoReg (S : Block) : Word := 0#8 ++ BitVec.ofNat 24 S.rxBuf.length

/-- CUR_INFO (R42). -/
def curInfoReg (S : Block) : Word :=
  match S.cur with
  | some r => 0#8 ++ BitVec.ofNat 16 r.payload.length ++ r.type
  | none => 0

/-- CFG0 (R43). -/
def cfg0Reg (c : Config) : Word :=
  0#13 ++ BitVec.ofBool c.crcRefout ++ BitVec.ofBool c.crcRefin ++ policyBit c.rxErrPolicy
    ++ BitVec.ofNat 8 c.queueDepth ++ BitVec.ofNat 8 c.maxRetries

/-- CFG1 (R43). -/
def cfg1Reg (c : Config) : Word := BitVec.ofNat 32 c.ackTimeout

/-- CFG2 (R43). -/
def cfg2Reg (c : Config) : Word := 0#16 ++ BitVec.ofNat 16 c.maxPayload

/-- CFG3 (R43). -/
def cfg3Reg (c : Config) : Word := 0#8 ++ c.typeDebug ++ c.typeNack ++ c.typeAck

/-- `read(S, off)` (R92): the value of a register read, the table of R39. -/
def readReg (c : Config) (S : Block) : Reg → Word
  | .cmd => 0
  | .result => S.result
  | .status => S.status c
  | .err => zext32 S.err
  | .crc => crcFinal c S.crcAcc
  | .crcRaw => S.crcAcc
  | .ticks => S.now
  | .deadline => S.tmrDeadline
  | .stageInfo => stageInfoReg S
  | .rxInfo => rxInfoReg S
  | .curInfo => curInfoReg S
  | .cfg0 => cfg0Reg c
  | .cfg1 => cfg1Reg c
  | .cfg2 => cfg2Reg c
  | .cfg3 => cfg3Reg c
  | .id => 0x52505431

end Sys2Proof.Machine
end

