-- ==== Sys2Proof/Machine/Queue.lean ====
section
/-! DEFINITION. The staging buffer's and the transfer queue's commands (42_queue.md R108 to R111). -/

namespace Sys2Proof.Machine

/-- STAGE_CLEAR on `S` (R108). -/
def stageClearOp (S : Block) : Block := Block.setResult 0 { S with stage := [], stageOvf := false }

/-- STAGE_BYTE on `S` (R109). -/
def stageByteOp (c : Config) (b : Byte) (S : Block) : Block :=
  if S.stageFull c then
    (Block.raise .stageOverflow { S with stageOvf := true }).setResult 0
  else
    Block.setResult 1 { S with stage := S.stage ++ [b] }

/-- STAGE_CLEAR (R108). -/
def execStageClear (s : State) : Host.Outcome State Fault Refusal := .next (s.onBlock stageClearOp)

/-- STAGE_BYTE b8 (R109). -/
def execStageByte (b : Byte) (s : State) : Host.Outcome State Fault Refusal :=
  .next (s.onBlock (stageByteOp s.cfg b))

/-- ENQUEUE type8, ack1 (R110). -/
def execEnqueue (t : Byte) (ack : Bool) (s : State) : Host.Outcome State Fault Refusal :=
  .next (s.onBlock (Block.enqueue s.cfg t ack))

/-- SEND_DEBUG ack1 (R111): `enqueue(P_TYPE_DEBUG, ack)`. -/
def execSendDebug (ack : Bool) (s : State) : Host.Outcome State Fault Refusal :=
  .next (s.onBlock (Block.enqueue s.cfg s.cfg.typeDebug ack))

end Sys2Proof.Machine
end

