-- ==== Sys2Proof/Machine/Codec.lean ====
section
/-! DEFINITION. The frame codec and the HDLC framing on the wire (44_codec.md): pure functions, not commands. -/

namespace Sys2Proof.Machine

/-- FLAG, the byte that delimits wire frames (R134). -/
def FLAG : Byte := 0x7E

/-- ESC, the escape byte (R134). -/
def ESC : Byte := 0x7D

/-- XORV, what an escaped byte is XORed with (R134). -/
def XORV : Byte := 0x20

/-- The 16-bit length field, low byte first (R60, R130). -/
def lengthBytes (n : Nat) : List Byte :=
  let v := BitVec.ofNat 16 n
  [v.extractLsb' 0 8, v.extractLsb' 8 8]

/-- The 32-bit checksum field, least significant byte first (R60, R131). -/
def checksumBytes (v : Word) : List Byte :=
  [v.extractLsb' 0 8, v.extractLsb' 8 8, v.extractLsb' 16 8, v.extractLsb' 24 8]

/-- `content(t, p)` (R130). -/
def content (t : Byte) (p : List Byte) : List Byte := t :: lengthBytes p.length ++ p

/-- The codec's own accumulation (R133): the type byte, then the two length bytes, then the payload, one piece at a time,
never through `S.crc_acc`. -/
def codecChecksum (c : Config) (t : Byte) (p : List Byte) : Word :=
  crcFinal c (crcFold c (crcFold c (crcFold c c.crcInit [t]) (lengthBytes p.length)) p)

/-- `frame(t, p)` (R131), which is `encode_frame(t, p)` (R132). -/
def frame (c : Config) (t : Byte) (p : List Byte) : List Byte :=
  content t p ++ checksumBytes (codecChecksum c t p)

/-- One byte on the wire (R134). -/
def stuffByte (b : Byte) : List Byte := if b = FLAG ∨ b = ESC then [ESC, b ^^^ XORV] else [b]

/-- `stuff(bytes)` (R134). -/
def stuff : List Byte → List Byte
  | [] => []
  | b :: r => stuffByte b ++ stuff r

/-- `wire(t, p)` (R134). -/
def wire (c : Config) (t : Byte) (p : List Byte) : List Byte := [FLAG] ++ stuff (frame c t p) ++ [FLAG]

/-- What `decode_frame` answers (R136). -/
inductive FrameResult where
  | ok (t : Byte) (p : List Byte)
  | lengthMismatch
  | checksumMismatch
deriving DecidableEq, Repr

/-- `f[i]` of a frame long enough to have it. -/
def byteAt (f : List Byte) (i : Nat) : Byte := f.getD i 0

/-- The declared length of a frame (R136). -/
def declaredLength (f : List Byte) : BitVec 16 :=
  (byteAt f 1).setWidth 16 ||| ((byteAt f 2).setWidth 16 <<< 8)

/-- The checksum trailer of a frame of `m` bytes (R136). -/
def trailer (f : List Byte) (m : Nat) : Word :=
  (byteAt f (m - 4)).setWidth 32 ||| ((byteAt f (m - 3)).setWidth 32 <<< 8)
    ||| ((byteAt f (m - 2)).setWidth 32 <<< 16) ||| ((byteAt f (m - 1)).setWidth 32 <<< 24)

/-- `decode_frame(f)` (R136), the length checks before the checksum (R137). -/
def decodeFrame (c : Config) (f : List Byte) : FrameResult :=
  let m := f.length
  if m < 7 then .lengthMismatch
  else if (declaredLength f).toNat ≠ m - 7 then .lengthMismatch
  else if crc32 c (f.take (m - 4)) ≠ trailer f m then .checksumMismatch
  else .ok (byteAt f 0) ((f.take (m - 4)).drop 3)

end Sys2Proof.Machine
end

