-- ==== Sys2Proof/Machine/RxFsm.lean ====
section
/-! DEFINITION. The receive frame-reassembly FSM (46_rx_fsm.md): RX_BYTE. -/

namespace Sys2Proof.Machine

/-- What a part of RX_BYTE leaves: `S`, the bytes and records appended, and the outcome code (R168). -/
structure RxOutcome where
  blk : Block
  out : Out
  code : Word
deriving DecidableEq, Repr

/-- A byte absorbed: outcome 0, CONSUMED (R168). -/
def consumed (S : Block) : RxOutcome := { blk := S, out := Out.empty, code := 0 }

/-- `f0`: the first byte of the receive buffer, 0 if it is empty (R166, R167). -/
def Block.firstByte (S : Block) : Byte := S.rxBuf.headD 0

/-- The two errors `rx_error` handles (R166). -/
inductive FrameError where
  | checksum
  | length
deriving DecidableEq, Repr

/-- The error event of a failed frame (R166). -/
def FrameError.err : FrameError → Err
  | .checksum => .checksumMismatch
  | .length => .lengthMismatch

/-- The REPORT code of a failed frame (R45, R166). -/
def FrameError.reportCode : FrameError → Byte
  | .checksum => 0x11
  | .length => 0x12

/-- `rx_error(k)` (R166): a NACK frame goes straight to TXD under the policy NACK. -/
def rxError (c : Config) (k : FrameError) (S : Block) : Block × Out :=
  (S.raise k.err,
    { txd := if c.rxErrPolicy = .nack then wire c c.typeNack [] else []
      report := [{ code := k.reportCode, type := S.firstByte, count := 0 }]
      dispatch := [] })

/-- `rx_accept(t, p)` (R165). -/
def rxAccept (c : Config) (t : Byte) (p : List Byte) (S : Block) : RxOutcome :=
  if t = c.typeAck then { blk := (S.postExt .ack).2, out := Out.empty, code := 2 }
  else if t = c.typeNack then { blk := (S.postExt .nack).2, out := Out.empty, code := 3 }
  else { blk := S, out := { Out.empty with dispatch := [{ type := t, payload := p }] }, code := 1 }

/-- `end_of_frame(f)` (R164). -/
def endOfFrame (c : Config) (f : List Byte) (S : Block) : RxOutcome :=
  match decodeFrame c f with
  | .lengthMismatch => let e := rxError c .length S; { blk := e.1, out := e.2, code := 5 }
  | .checksumMismatch => let e := rxError c .checksum S; { blk := e.1, out := e.2, code := 4 }
  | .ok t p => rxAccept c t p S

/-- `rx_append(x)` (R163). -/
def rxAppend (c : Config) (x : Byte) (S : Block) : RxOutcome :=
  if S.rxFull c then
    let e := rxError c .length S
    { blk := { e.1 with rxBuf := [], rxState := .hunt }, out := e.2, code := 5 }
  else
    consumed { S with rxBuf := S.rxBuf ++ [x] }

/-- `rx_abort()` (R167). -/
def rxAbort (S : Block) : RxOutcome :=
  { blk := { S.raise .frameAborted with rxBuf := [], rxState := .data }
    out := { Out.empty with report := [{ code := 0x13, type := S.firstByte, count := 0 }] }
    code := 6 }

/-- `rx_hunt(b)` (R160). -/
def rxHunt (b : Byte) (S : Block) : RxOutcome :=
  if b = FLAG then consumed { S with rxBuf := [], rxState := .data } else consumed S

/-- `rx_data(b)` (R161). -/
def rxData (c : Config) (b : Byte) (S : Block) : RxOutcome :=
  if b = FLAG then
    if S.rxBuf = [] then consumed S
    else
      let r := endOfFrame c S.rxBuf S
      { r with blk := { r.blk with rxBuf := [] } }
  else if b = ESC then consumed { S with rxState := .esc }
  else rxAppend c b S

/-- `rx_esc(b)` (R162). -/
def rxEsc (c : Config) (b : Byte) (S : Block) : RxOutcome :=
  if b = FLAG then rxAbort S else rxAppend c (b ^^^ XORV) { S with rxState := .data }

/-- RX_BYTE on `S` (R159). -/
def rxByteOp (c : Config) (b : Byte) (S : Block) : Block × Out :=
  let r := match S.rxState with
    | .hunt => rxHunt b S
    | .data => rxData c b S
    | .esc => rxEsc c b S
  (r.blk.setResult r.code, r.out)

/-- RX_BYTE b8 (R159). -/
def execRxByte (b : Byte) (s : State) : Host.Outcome State Fault Refusal :=
  .next (s.commit (rxByteOp s.cfg b s.blk))

end Sys2Proof.Machine
end

