-- ==== Sys2Proof/Machine/Timer.lean ====
section
/-! DEFINITION. The tick timer's command, TICK (41_timer.md R100). -/

namespace Sys2Proof.Machine

/-- TICK on `S` (R100): the counter is incremented before the deadline is tested (R101). -/
def tickOp (S : Block) : Block :=
  let S := { S with now := S.now + 1 }
  if S.tmrArmed ∧ reached S.now S.tmrDeadline then
    Block.setResult 1 { S with tmrRaised := true, tmrArmed := false }
  else
    S.setResult 0

/-- TICK (R100). -/
def execTick (s : State) : Host.Outcome State Fault Refusal := .next (s.onBlock tickOp)

end Sys2Proof.Machine
end

