-- ==== Sys2Proof/Machine/TxFsm.lean ====
section
/-! DEFINITION. The transmit retry FSM (45_tx_fsm.md): INIT, RUN, SET_EXT_EVENT ACK and SET_EXT_EVENT NACK. -/

namespace Sys2Proof.Machine

/-- INIT on `S` (R143). -/
def initOp (S : Block) : Block :=
  Block.setResult 0 { S with
    txState := .poll
    retryCnt := 0
    cur := none
    extEvt := .none
    tmrArmed := false
    tmrRaised := false }

/-- The POLL branch of RUN (R144 to R146). -/
def runPoll (c : Config) (S : Block) : Block × Out :=
  match S.dequeue with
  | none => (S.setResult 0, Out.empty)
  | some (r, S) =>
    let S := { S with retryCnt := 0 }
    let bytes := wire c r.type r.payload
    if r.ackExpected then
      let S := Block.tmrStart c.ackTimeout { S with cur := some r }
      (Block.setResult 1 { S with txState := .transmit }, { Out.empty with txd := bytes })
    else
      (S.setResult 5, { Out.empty with txd := bytes, report := [{ code := 0x02, type := r.type, count := 1 }] })

/-- The current request is resolved (R147, R149): retry counter 0, timer stopped, back to POLL. -/
def Block.resolve (S : Block) : Block :=
  { (Block.tmrStop { S with retryCnt := 0 }) with cur := none, txState := .poll }

/-- The TRANSMIT branch of RUN with the consumed event `e` (R147 to R149, in the priority of R153). `k` is not
truncated: R144 computes it "at 9 bits". -/
def runTransmit (c : Config) (e : ExtEvent) (S : Block) : Block × Out :=
  let r := S.currentRequest
  if e = .ack then
    (S.resolve.setResult 2, { Out.empty with report := [{ code := 0x01, type := r.type, count := S.retryCnt + 1 }] })
  else if e = .nack ∨ S.tmrRaised then
    let k := S.retryCnt.toNat + 1
    if k ≤ c.maxRetries then
      ((Block.tmrStart c.ackTimeout { S with retryCnt := BitVec.ofNat 8 k }).setResult 3,
        { Out.empty with txd := wire c r.type r.payload })
    else
      ((S.raise .retryBudgetExhausted).resolve.setResult 4,
        { Out.empty with
          report := [{ code := 0x03, type := r.type, count := BitVec.ofNat 8 (c.maxRetries + 1) }] })
  else
    (S.setResult 0, Out.empty)

/-- RUN on `S` (R144): the mailbox is consumed at every RUN. -/
def runOp (c : Config) (S : Block) : Block × Out :=
  let e := S.extEvt
  let S := { S with extEvt := .none }
  match S.txState with
  | .poll => runPoll c S
  | .transmit => runTransmit c e S

/-- SET_EXT_EVENT on `S` (R151). -/
def setExtEventOp (ev : ExtEvent) (S : Block) : Block :=
  let r := S.postExt ev
  r.2.setResult (if r.1 then 1 else 0)

/-- INIT (R143). -/
def execInit (s : State) : Host.Outcome State Fault Refusal := .next (s.onBlock initOp)

/-- RUN (R144). -/
def execRun (s : State) : Host.Outcome State Fault Refusal := .next (s.commit (runOp s.cfg s.blk))

/-- SET_EXT_EVENT ACK (R151). -/
def execSetExtEventAck (s : State) : Host.Outcome State Fault Refusal := .next (s.onBlock (setExtEventOp .ack))

/-- SET_EXT_EVENT NACK (R151). -/
def execSetExtEventNack (s : State) : Host.Outcome State Fault Refusal := .next (s.onBlock (setExtEventOp .nack))

end Sys2Proof.Machine
end

