-- ==== Sys2Proof/Machine/Dispatch.lean ====
section
/-! DEFINITION. `exec` of a legal command (40_command_port.md R87): one arm per constructor of Instr. -/

namespace Sys2Proof.Machine

def exec (i : Instr) (s : State) : Host.Outcome State Fault Refusal :=
  match i with
  | .nop => Sys2Proof.Machine.execNop s
  | .reset => Sys2Proof.Machine.execReset s
  | .init => Sys2Proof.Machine.execInit s
  | .run => Sys2Proof.Machine.execRun s
  | .tick => Sys2Proof.Machine.execTick s
  | .setExtEventAck => Sys2Proof.Machine.execSetExtEventAck s
  | .setExtEventNack => Sys2Proof.Machine.execSetExtEventNack s
  | .stageClear => Sys2Proof.Machine.execStageClear s
  | .stageByte b8 => Sys2Proof.Machine.execStageByte b8 s
  | .enqueue type8 ack1 => Sys2Proof.Machine.execEnqueue type8 ack1 s
  | .sendDebug ack1 => Sys2Proof.Machine.execSendDebug ack1 s
  | .crcInit => Sys2Proof.Machine.execCrcInit s
  | .crcByte b8 => Sys2Proof.Machine.execCrcByte b8 s
  | .crcRead => Sys2Proof.Machine.execCrcRead s
  | .rxByte b8 => Sys2Proof.Machine.execRxByte b8 s
  | .clrErr mask8 => Sys2Proof.Machine.execClrErr mask8 s

end Sys2Proof.Machine
end

