-- ==== Sys2Proof/Machine/Bus.lean ====
section
/-! DEFINITION. The register port (20_memory.md R52 to R58): which register an access selects, what a read answers, and how a write
to CMD runs a command. -/

namespace Sys2Proof.Machine

/-- The register a 32-bit access at `addr` selects. Every other access is refused (R55). -/
def selectReg (c : Config) (size addr : Nat) : Except Refusal Reg :=
  if size ≠ 4 then .error .narrowAccess
  else if addr < c.base ∨ c.base + 64 ≤ addr then .error .outsideWindow
  else
    match Reg.all.find? (fun r => addr == c.base + r.offset) with
    | some r => .ok r
    | none => .error .misalignedAccess

/-- A command word written to CMD (R87). -/
def runWord (w : Word) (s : State) : Host.Outcome State Fault Refusal :=
  match decode w with
  | .ok i => exec i s
  | .error _ => execIllegal s

/-- `MemRead` (R53): the register's value is returned and `S` stays. -/
def busRead (size addr : Nat) (s : State) : Host.Outcome State Fault Refusal :=
  match selectReg s.cfg size addr with
  | .ok r => .next { s with reads := s.reads ++ [readReg s.cfg s.blk r] }
  | .error e => .refused e

/-- `MemWrite` (R54): a write to CMD executes its word, a write to any other register has no effect. -/
def busWrite (size addr : Nat) (w : Word) (s : State) : Host.Outcome State Fault Refusal :=
  match selectReg s.cfg size addr with
  | .ok .cmd => runWord w s
  | .ok _ => .next s
  | .error e => .refused e

/-- One access at the port. -/
def serve (a : Access) (s : State) : Host.Outcome State Fault Refusal :=
  match a with
  | .read size addr => busRead size addr s
  | .write size addr w => busWrite size addr w s

/-- The port's next step: the oldest access that has arrived is served (R56, R65). With none the block does nothing: R15, "it
changes state only when a command arrives". -/
def serveNext (s : State) : Host.Outcome State Fault Refusal :=
  match s.bus with
  | [] => .next s
  | a :: rest => serve a { s with bus := rest }

/-- The bus write that carries a command word to CMD. -/
def cmdWrite (c : Config) (w : Word) : Access := .write 4 (c.base + Reg.cmd.offset) w

/-- An agent's write of a table word to CMD, placed to be served next. -/
def placeCommand (s : State) (nbits w : Nat) : State :=
  { s with bus := cmdWrite s.cfg (tableWord nbits w) :: s.bus }

end Sys2Proof.Machine
end

