-- ==== Sys2Proof/Machine/Step.lean ====
section
/-! DEFINITION. One step of the machine, and the placing of one command for the next step. -/

namespace Sys2Proof.Machine

/-- The port serves one access (R56, R65). -/
def step (s : State) : Host.Outcome State Fault Refusal := serveNext s

/-- The block fetches nothing (R68): a command comes as a write to CMD, and this write is the next access to be served. -/
def State.withFetchWord (s : State) (nbits w : Nat) : State := placeCommand s nbits w

end Sys2Proof.Machine
end

