-- ==== Sys2Proof/WellFormed.lean ====
section
/-! DEFINITION. Which assembler lines have their operands in range (30_encoding.md R80). A command of `Instr` needs no
check: its operands have exactly the widths of R72, so every term of `Instr` is a legal command. -/

namespace Sys2Proof

/-- An 8-bit operand (`b8`, `type8`, `mask8`) in range. -/
def okByte (n : Nat) : Bool := decide (n ≤ 0xFF)

/-- The flag operand `ack1` in range. -/
def okAck (n : Nat) : Bool := decide (n ≤ 1)

/-- R80: "An operand out of range (b8 > 0xFF, ack1 > 1, mask8 > 0xFF, an event name other than ACK or NACK) is an
assembly error." DESIGN CHOICE (notes/assumptions/11.md): type8 and the operands of the pseudo-instructions are checked alike. -/
def Asm.wellFormed : Asm → Bool
  | .nop | .reset | .init | .run | .tick | .stageClear | .crcInit | .crcRead | .iterate | .clrErrAll => true
  | .ticks _ => true
  | .setExtEvent ev => decide (ev ≠ .other)
  | .stageByte b | .crcByte b | .rxByte b => okByte b
  | .clrErr m => okByte m
  | .enqueue t a => okByte t && okAck a
  | .sendDebug a => okAck a
  | .stage bs | .crcBytes bs | .crc bs | .rxBytes bs => bs.all okByte
  | .send t a bs => okByte t && okAck a && bs.all okByte
  | .debug a bs => okAck a && bs.all okByte
  | .rxFrame t bs => okByte t && bs.all okByte

end Sys2Proof
end

