-- ==== Sys2Proof/Machine/Assembler.lean ====
section
/-! DEFINITION. The assembler of 30_encoding.md section 5: a source line to its command words (R80), and the expansions of the
pseudo-instructions (R81). -/

namespace Sys2Proof.Machine

/-- What is wrong with a source line: "The assembler produces no word for it" (R80). -/
inductive AsmError where
  /-- a character or a number that no token has -/
  | badToken
  /-- the mnemonic with these operands is no form of R80 or R81 -/
  | badForm
  /-- an operand out of range (R80) -/
  | outOfRange
deriving DecidableEq, Repr

/-- A token of a source line: a name, a number (a character literal is one), a string's bytes, or a comma. -/
inductive Token where
  | name (cs : List Char)
  | num (n : Nat)
  | str (bytes : List Nat)
  | comma
deriving DecidableEq, Repr

/-- Where the lexer stands in a line; the characters read so far stand last first. -/
inductive LexMode where
  | between
  | inWord (rev : List Char)
  | inString (rev : List Nat)
  | quoteOpen
  | quoteChar (n : Nat)
  | inComment
  | failed
deriving DecidableEq, Repr

/-- The value of a digit, in base 10 or 16. -/
def digitValue (base : Nat) (ch : Char) : Option Nat :=
  let n := ch.toNat
  let v := if 48 ≤ n ∧ n ≤ 57 then n - 48
    else if 65 ≤ n ∧ n ≤ 70 then n - 55
    else if 97 ≤ n ∧ n ≤ 102 then n - 87
    else base
  if v < base then some v else none

/-- The number that digits in a base spell, most significant first. DESIGN CHOICE (notes/assumptions/11.md): `_` groups no
digits in source text, where R80 is silent; 00_scope.md section 5 uses it in the spec's own constants. -/
def digitsValue (base : Nat) : Nat → List Char → Option Nat
  | acc, [] => some acc
  | acc, ch :: rest =>
    match digitValue base ch with
    | some d => digitsValue base (acc * base + d) rest
    | none => none

/-- R80: "Numbers are decimal, or hexadecimal with `0x`." -/
def numberOf (cs : List Char) : Option Nat :=
  match cs with
  | '0' :: 'x' :: d :: rest => digitsValue 16 0 (d :: rest)
  | d :: rest => digitsValue 10 0 (d :: rest)
  | [] => none

/-- A character of a mnemonic, a name or a number. -/
def isWordChar (ch : Char) : Bool :=
  let n := ch.toNat
  (48 ≤ n && n ≤ 57) || (65 ≤ n && n ≤ 90) || (97 ≤ n && n ≤ 122) || n == 95

/-- The token a finished word stands for: a number if it begins with a digit, else a name. -/
def wordToken (cs : List Char) : Option Token :=
  match cs with
  | ch :: _ => if (digitValue 10 ch).isSome then (numberOf cs).map .num else some (.name cs)
  | [] => none

/-- An ASCII code (R80: a character literal and a string are ASCII). -/
def isAscii (ch : Char) : Bool := decide (ch.toNat < 128)

/-- The lexer between two tokens. `;` starts a comment. -/
def lexBetween (toks : List Token) (ch : Char) : LexMode × List Token :=
  if ch = ' ' ∨ ch = '\t' ∨ ch = '\r' then (.between, toks)
  else if ch = ',' then (.between, toks ++ [.comma])
  else if ch = ';' then (.inComment, toks)
  else if ch = '"' then (.inString [], toks)
  else if ch = '\'' then (.quoteOpen, toks)
  else if isWordChar ch then (.inWord [ch], toks)
  else (.failed, toks)

/-- The end of a word. -/
def endWord (rev : List Char) (toks : List Token) : LexMode × List Token :=
  match wordToken rev.reverse with
  | some t => (.between, toks ++ [t])
  | none => (.failed, toks)

/-- One character of a line. DESIGN CHOICE (notes/assumptions/11.md): a token ends where its last character stands, so a mnemonic
and a quoted operand need no blank between them; R80 is silent. -/
def lexChar (st : LexMode × List Token) (ch : Char) : LexMode × List Token :=
  match st.1 with
  | .between => lexBetween st.2 ch
  | .inWord rev =>
    if isWordChar ch then (.inWord (ch :: rev), st.2)
    else
      match endWord rev st.2 with
      | (.between, toks) => lexBetween toks ch
      | other => other
  | .inString rev =>
    if ch = '"' then (.between, st.2 ++ [.str rev.reverse])
    else if isAscii ch then (.inString (ch.toNat :: rev), st.2)
    else (.failed, st.2)
  | .quoteOpen => if isAscii ch then (.quoteChar ch.toNat, st.2) else (.failed, st.2)
  | .quoteChar n => if ch = '\'' then (.between, st.2 ++ [.num n]) else (.failed, st.2)
  | .inComment => st
  | .failed => st

/-- The tokens of a line. -/
def lexLine (line : List Char) : Option (List Token) :=
  match line.foldl lexChar (.between, []) with
  | (.between, toks) => some toks
  | (.inComment, toks) => some toks
  | (.inWord rev, toks) =>
    match endWord rev toks with
    | (.between, toks) => some toks
    | _ => none
  | _ => none

/-- The operands of a line, "separated by commas" (R80). -/
def operandsOf : List Token → Option (List Token)
  | [] => some []
  | [.comma] => none
  | [t] => some [t]
  | .comma :: _ => none
  | t :: .comma :: rest =>
    match operandsOf rest with
    | some (u :: us) => some (t :: u :: us)
    | _ => none
  | _ :: _ :: _ => none

/-- The operands as a list of numbers. -/
def numbersOf : List Token → Option (List Nat)
  | [] => some []
  | .num n :: rest => (numbersOf rest).map (n :: ·)
  | _ :: _ => none

/-- The event operand of SET_EXT_EVENT. -/
def eventNameOf (cs : List Char) : EventName :=
  if cs = "ACK".toList then .ack else if cs = "NACK".toList then .nack else .other

/-- A form with no operands. -/
def plainForm (m : List Char) : Option Asm :=
  if m = "NOP".toList then some .nop
  else if m = "RESET".toList then some .reset
  else if m = "INIT".toList then some .init
  else if m = "RUN".toList then some .run
  else if m = "TICK".toList then some .tick
  else if m = "STAGE_CLEAR".toList then some .stageClear
  else if m = "CRC_INIT".toList then some .crcInit
  else if m = "CRC_READ".toList then some .crcRead
  else if m = "ITERATE".toList then some .iterate
  else if m = "CLR_ERR_ALL".toList then some .clrErrAll
  else none

/-- A form with one number. -/
def numberForm (m : List Char) (n : Nat) : Option Asm :=
  if m = "STAGE_BYTE".toList then some (.stageByte n)
  else if m = "SEND_DEBUG".toList then some (.sendDebug n)
  else if m = "CRC_BYTE".toList then some (.crcByte n)
  else if m = "RX_BYTE".toList then some (.rxByte n)
  else if m = "CLR_ERR".toList then some (.clrErr n)
  else if m = "TICKS".toList then some (.ticks n)
  else if m = "STAGE".toList then some (.stage [n])
  else if m = "RX_BYTES".toList then some (.rxBytes [n])
  else none

/-- A form with one string. -/
def stringForm (m : List Char) (bs : List Nat) : Option Asm :=
  if m = "STAGE".toList then some (.stage bs)
  else if m = "CRC_BYTES".toList then some (.crcBytes bs)
  else if m = "CRC".toList then some (.crc bs)
  else none

/-- A form with two or more numbers. -/
def numbersForm (m : List Char) (ns : List Nat) : Option Asm :=
  if m = "STAGE".toList then some (.stage ns)
  else if m = "RX_BYTES".toList then some (.rxBytes ns)
  else
    match ns with
    | [t, a] => if m = "ENQUEUE".toList then some (.enqueue t a) else none
    | _ => none

/-- The line that a mnemonic and its operands make (the syntax columns of R80 and R81). -/
def formOf (m : List Char) (ops : List Token) : Option Asm :=
  match ops with
  | [] => plainForm m
  | [.num n] => numberForm m n
  | [.str bs] => stringForm m bs
  | [.name ev] => if m = "SET_EXT_EVENT".toList then some (.setExtEvent (eventNameOf ev)) else none
  | [.num n, .str bs] =>
    if m = "DEBUG".toList then some (.debug n bs)
    else if m = "RX_FRAME".toList then some (.rxFrame n bs)
    else none
  | [.num t, .num a, .str bs] => if m = "SEND".toList then some (.send t a bs) else none
  | _ => (numbersOf ops).bind (numbersForm m)

/-- One source line: a command or pseudo-instruction, or nothing on a blank or comment line. -/
def parseLine (line : List Char) : Except AsmError (Option Asm) :=
  match lexLine line with
  | none => .error .badToken
  | some [] => .ok none
  | some (.name m :: rest) =>
    match (operandsOf rest).bind (formOf m) with
    | some a => .ok (some a)
    | none => .error .badForm
  | some _ => .error .badForm

/-- A number as a byte operand, in range once `Asm.wellFormed` holds. -/
def byteOf (n : Nat) : Byte := BitVec.ofNat 8 n

/-- `STAGE b0, b1, ...` (R81). -/
def stageCommands (bs : List Nat) : List Instr := .stageClear :: bs.map (fun b => .stageByte (byteOf b))

/-- The commands of a line whose operands are in range (R80, R81). DESIGN CHOICE (notes/assumptions/17.md): RX_FRAME with a payload
longer than P_MAX_PAYLOAD, outside the domain of `content` in R130, expands by the same formula. -/
def expand (c : Config) : Asm → List Instr
  | .nop => [.nop]
  | .reset => [.reset]
  | .init => [.init]
  | .run => [.run]
  | .tick => [.tick]
  | .setExtEvent .ack => [.setExtEventAck]
  | .setExtEvent .nack => [.setExtEventNack]
  | .setExtEvent .other => []
  | .stageClear => [.stageClear]
  | .stageByte b => [.stageByte (byteOf b)]
  | .enqueue t a => [.enqueue (byteOf t) (a == 1)]
  | .sendDebug a => [.sendDebug (a == 1)]
  | .crcInit => [.crcInit]
  | .crcByte b => [.crcByte (byteOf b)]
  | .crcRead => [.crcRead]
  | .rxByte b => [.rxByte (byteOf b)]
  | .clrErr m => [.clrErr (byteOf m)]
  | .stage bs => stageCommands bs
  | .send t a bs => stageCommands bs ++ [.enqueue (byteOf t) (a == 1)]
  | .debug a bs => stageCommands bs ++ [.sendDebug (a == 1)]
  | .crcBytes bs => bs.map (fun b => .crcByte (byteOf b))
  | .crc bs => [.crcInit] ++ bs.map (fun b => .crcByte (byteOf b)) ++ [.crcRead]
  | .rxBytes bs => bs.map (fun b => .rxByte (byteOf b))
  | .rxFrame t p => (wire c (byteOf t) (p.map byteOf)).map .rxByte
  | .iterate => [.tick, .run]
  | .ticks k => List.replicate k .tick
  | .clrErrAll => [.clrErr 0xFF]

/-- The words of a line, or the assembly error (R80). -/
def assemble (c : Config) (a : Asm) : Except AsmError (List Word) :=
  if a.wellFormed then .ok ((expand c a).map encode) else .error .outOfRange

/-- The words of one source line (R80). -/
def assembleLine (c : Config) (line : List Char) : Except AsmError (List Word) :=
  match parseLine line with
  | .ok (some a) => assemble c a
  | .ok none => .ok []
  | .error e => .error e

end Sys2Proof.Machine
end

