-- ==== Sys2Proof/Safety.lean ====
section
/-! DEFINITION. What the claims call a run and a good state: the invariants of 10_state.md R48, the states reachable from
power-on under any interleaving of accesses (20_memory.md R56), and sequences of commands. -/

namespace Sys2Proof.Machine

/-- I1 of R48. -/
abbrev Block.ArmedOnlyInTransmit (S : Block) : Prop := S.tmrArmed = true → S.txState = .transmit

/-- I2 of R48. -/
abbrev Block.CurIffTransmit (S : Block) : Prop := S.cur ≠ none ↔ S.txState = .transmit

/-- I3 of R48. -/
abbrev Block.RetryBounded (c : Config) (S : Block) : Prop :=
  S.retryCnt.toNat ≤ c.maxRetries ∧ (S.txState = .poll → S.retryCnt = 0)

/-- I4 of R48. -/
abbrev Block.QueueBounded (c : Config) (S : Block) : Prop := S.q.length ≤ c.queueDepth

/-- I5 of R48. -/
abbrev Block.StageBounded (c : Config) (S : Block) : Prop := S.stage.length ≤ c.maxPayload

/-- I6 of R48. -/
abbrev Block.RxBounded (c : Config) (S : Block) : Prop :=
  S.rxBuf.length ≤ c.maxPayload + 7 ∧ (S.rxState = .hunt → S.rxBuf = [])

/-- The bound of R32 on every payload the block holds. -/
abbrev Block.PayloadsBounded (c : Config) (S : Block) : Prop :=
  (∀ r ∈ S.q, r.payload.length ≤ c.maxPayload) ∧ (∀ r ∈ S.cur.toList, r.payload.length ≤ c.maxPayload)

/-- The invariants I1 to I6 of R48 (I7 holds by the types of the fields) and the payload bound of R32. -/
abbrev Block.Inv (c : Config) (S : Block) : Prop :=
  S.ArmedOnlyInTransmit ∧ S.CurIffTransmit ∧ S.RetryBounded c ∧ S.QueueBounded c ∧ S.StageBounded c ∧ S.RxBounded c
    ∧ S.PayloadsBounded c

/-- The invariants of the block inside the system's state. -/
abbrev State.Inv (s : State) : Prop := s.blk.Inv s.cfg

/-- An access R53 and R54 give a meaning: 32 bits wide, word-aligned, inside the window. Every other one is refused (R55). -/
abbrev Access.Legal (c : Config) : Access → Prop
  | .read size addr => size = 4 ∧ ∃ r ∈ Reg.all, addr = c.base + r.offset
  | .write size addr _ => size = 4 ∧ ∃ r ∈ Reg.all, addr = c.base + r.offset

/-- The states of a run of the instance built with `c`: from power-on, agents' accesses arrive in any order and at any
time (R56), and the port serves them one by one. -/
inductive Reachable (c : Config) : State → Prop
  | powerOn : Reachable c (State.powerOn c)
  | arrive (s : State) (a : Access) : Reachable c s → Reachable c { s with bus := s.bus ++ [a] }
  | step (s t : State) : Reachable c s → Machine.step s = .next t → Reachable c t

/-- A sequence of commands, one after the other (R177), stopping at the first that answers no next state. -/
def execAll : List Instr → State → Host.Outcome State Fault Refusal
  | [], s => .next s
  | i :: rest, s =>
    match exec i s with
    | .next t => execAll rest t
    | .fault r => .fault r
    | .refused r => .refused r

/-- What an observer that sees each command with the states before and after it collects over a sequence of commands. -/
def trace {α : Type} (see : Instr → State → State → List α) : List Instr → State → List α
  | [], _ => []
  | i :: rest, s =>
    match exec i s with
    | .next t => see i s t ++ trace see rest t
    | _ => []

/-- The request an ENQUEUE or SEND_DEBUG commits when it is accepted, RESULT = 1 (R79, R110, R111). -/
def acceptedBy (i : Instr) (s t : State) : List Request :=
  match i with
  | .enqueue ty a => if t.blk.result = 1 then [{ type := ty, ackExpected := a, payload := s.blk.stage }] else []
  | .sendDebug a =>
    if t.blk.result = 1 then [{ type := s.cfg.typeDebug, ackExpected := a, payload := s.blk.stage }] else []
  | _ => []

/-- The bytes a RUN puts on TXD when it says that it sent a new request: RESULT 1 SENT_AWAIT_ACK or 5 SENT_NO_ACK (R79). -/
def firstCopyBy (i : Instr) (s t : State) : List (List Byte) :=
  if i = .run ∧ (t.blk.result = 1 ∨ t.blk.result = 5) then [t.txd.drop s.txd.length] else []

/-- The bytes a RUN puts on TXD, if it puts any. -/
def copyBy (i : Instr) (s t : State) : List (List Byte) :=
  if i = .run ∧ s.txd.length < t.txd.length then [t.txd.drop s.txd.length] else []

/-- The records a RUN appends to REPORT. -/
def reportsBy (i : Instr) (s t : State) : List Report :=
  if i = .run then t.report.drop s.report.length else []

/-- A RUN in this state sees an acknowledgement of the current request (R147). -/
def State.seesAck (s : State) : Bool := decide (s.blk.txState = .transmit) && decide (s.blk.extEvt = .ack)

/-- A RUN in this state sees a NACK or a timeout of the current request (R148, R149). -/
def State.seesFailure (s : State) : Bool :=
  decide (s.blk.txState = .transmit)
    && (decide (s.blk.extEvt = .nack) || (decide (s.blk.extEvt = .none) && s.blk.tmrRaised))

/-- The RUNs that see an acknowledgement. -/
def ackSeen (i : Instr) (s _t : State) : List Instr := if i = .run ∧ s.seesAck = true then [i] else []

/-- The RUNs that see a NACK or a timeout. -/
def failureSeen (i : Instr) (s _t : State) : List Instr := if i = .run ∧ s.seesFailure = true then [i] else []

/-- One bit of one byte of a byte list flipped: bit `j` of element `i`. -/
def flipBit (f : List Byte) (i j : Nat) : List Byte := f.set i (f.getD i 0 ^^^ (1#8 <<< j))

/-- The bytes a byte driver hands to the block, one RX_BYTE each (R81 `RX_BYTES`). -/
def rxBytes (bs : List Byte) : List Instr := bs.map .rxByte

/-- One round without an acknowledgement (R155): the peer's NACK and a RUN, or the ticks of one timeout and a RUN. -/
def unackedRound (c : Config) : Bool → List Instr
  | true => [.setExtEventNack, .run]
  | false => List.replicate (max 1 c.ackTimeout) .tick ++ [.run]

/-- Several such rounds. -/
def unackedRounds (c : Config) (ks : List Bool) : List Instr := ks.flatMap (unackedRound c)

/-- `k` copies of a byte list on the wire. -/
def copies (k : Nat) (bs : List Byte) : List Byte := (List.replicate k bs).flatten

/-- `n` iterations of the superloop, `ITERATE` of R81 and R156. -/
def iterations (n : Nat) : List Instr := (List.replicate n [Instr.tick, Instr.run]).flatten

/-- The requests that the accepted ENQUEUEs of a command list commit, in order, with the staged payload `p`. -/
def enqueued (p : List Byte) (cmds : List Instr) : List Request :=
  cmds.filterMap fun
    | .enqueue t a => some { type := t, ackExpected := a, payload := p }
    | _ => none

/-- Which commands raise the error of ERR bit `n` (the column "raised by" of 60_exceptions.md R173). -/
def raisesBit : Nat → Instr → Prop
  | 0, i => ∃ b, i = .rxByte b
  | 1, i => ∃ b, i = .rxByte b
  | 2, i => (∃ t a, i = .enqueue t a) ∨ ∃ a, i = .sendDebug a
  | 3, i => i = .run
  | 4, i => (∃ b, i = .stageByte b) ∨ (∃ t a, i = .enqueue t a) ∨ ∃ a, i = .sendDebug a
  | 6, i => i = .setExtEventAck ∨ i = .setExtEventNack ∨ ∃ b, i = .rxByte b
  | 7, i => ∃ b, i = .rxByte b
  | _, _ => False

end Sys2Proof.Machine
end

