-- ==== Sys2Proof/Certificates/Slice0/Obligations.lean ====
section
/-! DEFINITION. The statements for the provers, each a proposition about the machine of Sys2Proof.Machine; OBLIGATIONS.json says
which rule of spec/ each formalises. -/

open Sys2Proof Sys2Proof.Machine

/-! ### Encoding -/

/-- Every command's word decodes to that command, with every operand at every value. -/
def Obligations.DecodeOfEncode : Prop := ∀ i : Instr, decode (encode i) = .ok i

/-- Every word with a meaning is the word of that meaning: no two words stand for one command. -/
def Obligations.EncodeOfDecode : Prop := ∀ (w : Word) (i : Instr), decode w = .ok i → encode i = w

/-- R74 and R77: the table of matches and masks, the operands each row takes from the word, which word is which command, that
every other word is ILLEGAL, and that no two rows share a word. -/
def Obligations.CommandTable : Prop :=
  (Row.all.map fun r => (r.pat, r.mask)) =
    [(0x00000000, 0xFFFFFFFF), (0x01000000, 0xFFFFFFFF), (0x02000000, 0xFFFFFFFF), (0x03000000, 0xFFFFFFFF),
     (0x04000000, 0xFFFFFFFF), (0x05010000, 0xFFFFFFFF), (0x05020000, 0xFFFFFFFF), (0x06000000, 0xFFFFFFFF),
     (0x07000000, 0xFF00FFFF), (0x08000000, 0xFF00FFFE), (0x09000000, 0xFFFFFFFE), (0x0A000000, 0xFFFFFFFF),
     (0x0B000000, 0xFF00FFFF), (0x0C000000, 0xFFFFFFFF), (0x0D000000, 0xFF00FFFF), (0x0E000000, 0xFFFFFF00)] ∧
  (∀ w : Word, (Row.all.map fun r => r.build w) =
    [.nop, .reset, .init, .run, .tick, .setExtEventAck, .setExtEventNack, .stageClear,
     .stageByte (w.extractLsb' 16 8), .enqueue (w.extractLsb' 16 8) (w.getLsbD 0), .sendDebug (w.getLsbD 0),
     .crcInit, .crcByte (w.extractLsb' 16 8), .crcRead, .rxByte (w.extractLsb' 16 8),
     .clrErr (w.extractLsb' 0 8)]) ∧
  (∀ (w : Word), ∀ r ∈ Row.all, w &&& r.mask = r.pat → decode w = .ok (r.build w)) ∧
  (∀ w : Word, (∀ r ∈ Row.all, w &&& r.mask ≠ r.pat) → ∃ e, decode w = .error e) ∧
  (∀ (w : Word), ∀ r ∈ Row.all, ∀ r' ∈ Row.all, w &&& r.mask = r.pat → w &&& r'.mask = r'.pat → r = r')

/-- R75 and R91: which words are illegal, and that an illegal word written to CMD changes ERR bit 5 and RESULT only. -/
def Obligations.IllegalCommands : Prop :=
  (∀ w : Word, (∃ e, decode w = .error e) ↔
    (0x0F ≤ (w.extractLsb' 24 8).toNat ∨
     (w.extractLsb' 24 8 = 0x05#8 ∧
       (w.extractLsb' 16 8 ≠ 0x01#8 ∧ w.extractLsb' 16 8 ≠ 0x02#8 ∨ w.extractLsb' 0 16 ≠ 0#16)) ∨
     ∃ r ∈ Row.all, r ≠ .setExtEventAck ∧ r ≠ .setExtEventNack ∧
       r.pat.extractLsb' 24 8 = w.extractLsb' 24 8 ∧ w &&& (r.mask &&& 0x00FFFFFF#32) ≠ 0)) ∧
  (∀ (s : State) (w : Word) (e : DecodeError) (rest : List Access),
    decode w = .error e → s.bus = .write 4 s.cfg.base w :: rest →
    step s = .next { s with
      bus := rest, blk := { s.blk with err := s.blk.err ||| 0x20, result := 0xFFFFFFFF } }) ∧
  (∃ t, step (State.reset.withFetchWord 32 0x0F000000) = .next t ∧ t.blk.err = 0x20 ∧ t.blk.result = 0xFFFFFFFF)

/-- R82: the encoding examples and the examples of illegal words. -/
def Obligations.EncodingExamples : Prop :=
  encode (.enqueue 0x10 true) = 0x08100001 ∧ encode (.stageByte 0x7E) = 0x077E0000 ∧
  encode (.rxByte 0x7D) = 0x0D7D0000 ∧ encode (.clrErr 0x09) = 0x0E000009 ∧ encode .setExtEventNack = 0x05020000 ∧
  decode 0x08100001 = .ok (.enqueue 0x10 true) ∧ decode 0x077E0000 = .ok (.stageByte 0x7E) ∧
  decode 0x0D7D0000 = .ok (.rxByte 0x7D) ∧ decode 0x0E000009 = .ok (.clrErr 0x09) ∧
  decode 0x05020000 = .ok .setExtEventNack ∧
  (decode 0x08100002).toOption = none ∧ (decode 0x05030000).toOption = none ∧
  (decode 0x03000001).toOption = none ∧ (decode 0x0F000000).toOption = none

/-- R80: which operands are out of range, by number, and the assembly error for them; the one word of each command form with its
operands in range. Three clauses state choices of the model: that type8 and the operands of the pseudo-instructions are checked
alike (notes/assumptions/11.md), and that RX_FRAME with a payload over P_MAX_PAYLOAD expands by R81's formula
(notes/assumptions/17.md). -/
def Obligations.AssemblerWords : Prop :=
  ∀ c : Config,
    -- out of range by R80
    (∀ b, 0xFF < b → assemble c (.stageByte b) = .error .outOfRange ∧ assemble c (.crcByte b) = .error .outOfRange ∧
      assemble c (.rxByte b) = .error .outOfRange) ∧
    (∀ m, 0xFF < m → assemble c (.clrErr m) = .error .outOfRange) ∧
    (∀ t a, 1 < a → assemble c (.enqueue t a) = .error .outOfRange ∧ assemble c (.sendDebug a) = .error .outOfRange) ∧
    assemble c (.setExtEvent .other) = .error .outOfRange ∧
    -- out of range by notes/assumptions/11.md
    (∀ t a, 0xFF < t → assemble c (.enqueue t a) = .error .outOfRange) ∧
    (∀ (t a : Nat) (bs : List Nat),
      ((∃ b ∈ bs, 0xFF < b) → assemble c (.stage bs) = .error .outOfRange ∧ assemble c (.crcBytes bs) = .error .outOfRange ∧
        assemble c (.crc bs) = .error .outOfRange ∧ assemble c (.rxBytes bs) = .error .outOfRange) ∧
      (0xFF < t ∨ 1 < a ∨ (∃ b ∈ bs, 0xFF < b) → assemble c (.send t a bs) = .error .outOfRange) ∧
      (1 < a ∨ (∃ b ∈ bs, 0xFF < b) → assemble c (.debug a bs) = .error .outOfRange) ∧
      (0xFF < t ∨ (∃ b ∈ bs, 0xFF < b) → assemble c (.rxFrame t bs) = .error .outOfRange)) ∧
    -- beyond the domain of R130, by notes/assumptions/17.md
    (∀ (t : Nat) (bs : List Nat), t ≤ 0xFF → (∀ b ∈ bs, b ≤ 0xFF) → c.maxPayload < bs.length →
      assemble c (.rxFrame t bs) = .ok ((wire c (BitVec.ofNat 8 t) (bs.map (BitVec.ofNat 8))).map
        fun b => BitVec.ofNat 32 (0x0D000000 + b.toNat * 2 ^ 16))) ∧
    -- in range by R80
    assemble c .nop = .ok [0x00000000] ∧ assemble c .reset = .ok [0x01000000] ∧
    assemble c .init = .ok [0x02000000] ∧ assemble c .run = .ok [0x03000000] ∧
    assemble c .tick = .ok [0x04000000] ∧
    assemble c (.setExtEvent .ack) = .ok [0x05010000] ∧ assemble c (.setExtEvent .nack) = .ok [0x05020000] ∧
    assemble c .stageClear = .ok [0x06000000] ∧
    (∀ b, b ≤ 0xFF → assemble c (.stageByte b) = .ok [BitVec.ofNat 32 (0x07000000 + b * 2 ^ 16)]) ∧
    (∀ t a, t ≤ 0xFF → a ≤ 1 → assemble c (.enqueue t a) = .ok [BitVec.ofNat 32 (0x08000000 + t * 2 ^ 16 + a)]) ∧
    (∀ a, a ≤ 1 → assemble c (.sendDebug a) = .ok [BitVec.ofNat 32 (0x09000000 + a)]) ∧
    assemble c .crcInit = .ok [0x0A000000] ∧
    (∀ b, b ≤ 0xFF → assemble c (.crcByte b) = .ok [BitVec.ofNat 32 (0x0B000000 + b * 2 ^ 16)]) ∧
    assemble c .crcRead = .ok [0x0C000000] ∧
    (∀ b, b ≤ 0xFF → assemble c (.rxByte b) = .ok [BitVec.ofNat 32 (0x0D000000 + b * 2 ^ 16)]) ∧
    (∀ m, m ≤ 0xFF → assemble c (.clrErr m) = .ok [BitVec.ofNat 32 (0x0E000000 + m)])

/-- R81: the words each pseudo-instruction expands to, for operands in range and, for RX_FRAME, a payload in the domain R130
gives `content`; AssemblerWords states the longer payloads. -/
def Obligations.PseudoInstructionExpansions : Prop :=
  ∀ (c : Config) (bs : List Nat), (∀ b ∈ bs, b ≤ 0xFF) →
    assemble c (.stage bs) =
      .ok (0x06000000 :: bs.map fun b => BitVec.ofNat 32 (0x07000000 + b * 2 ^ 16)) ∧
    (∀ t a, t ≤ 0xFF → a ≤ 1 → assemble c (.send t a bs) =
      .ok ((0x06000000 :: bs.map fun b => BitVec.ofNat 32 (0x07000000 + b * 2 ^ 16)) ++
        [BitVec.ofNat 32 (0x08000000 + t * 2 ^ 16 + a)])) ∧
    (∀ a, a ≤ 1 → assemble c (.debug a bs) =
      .ok ((0x06000000 :: bs.map fun b => BitVec.ofNat 32 (0x07000000 + b * 2 ^ 16)) ++
        [BitVec.ofNat 32 (0x09000000 + a)])) ∧
    assemble c (.crcBytes bs) = .ok (bs.map fun b => BitVec.ofNat 32 (0x0B000000 + b * 2 ^ 16)) ∧
    assemble c (.crc bs) =
      .ok ([0x0A000000] ++ (bs.map fun b => BitVec.ofNat 32 (0x0B000000 + b * 2 ^ 16)) ++ [0x0C000000]) ∧
    assemble c (.rxBytes bs) = .ok (bs.map fun b => BitVec.ofNat 32 (0x0D000000 + b * 2 ^ 16)) ∧
    (∀ t, t ≤ 0xFF → bs.length ≤ c.maxPayload → assemble c (.rxFrame t bs) = .ok ((wire c (BitVec.ofNat 8 t) (bs.map (BitVec.ofNat 8))).map
      fun b => BitVec.ofNat 32 (0x0D000000 + b.toNat * 2 ^ 16))) ∧
    assemble c .iterate = .ok [0x04000000, 0x03000000] ∧
    (∀ k, assemble c (.ticks k) = .ok (List.replicate k 0x04000000)) ∧
    assemble c .clrErrAll = .ok [0x0E0000FF]

/-! ### The command port -/

/-- R87: a word written to CMD runs the command it decodes to, or the illegal command. The access served is consumed. -/
def Obligations.StepRunsDecodedWord : Prop :=
  ∀ (s : State) (w : Word) (rest : List Access), s.bus = .write 4 s.cfg.base w :: rest →
    (∀ i, decode w = .ok i → step s = exec i { s with bus := rest }) ∧
    (∀ e, decode w = .error e → step s = execIllegal { s with bus := rest })

/-- The model's own step around the spec's commands: choices of the model, not rules of the spec. The placing puts the write of
the word at the HEAD of the waiting accesses (notes/assumptions/2.md; the spec serves writes in order of arrival, R56), so that
the next step runs exactly that command, and it changes nothing else. With no access waiting a step changes nothing
(notes/assumptions/4.md). No step faults: the type of faults is empty (notes/assumptions/16.md). -/
def Obligations.PlacedCommandRuns : Prop :=
  (∀ (s : State) (i : Instr), step (s.withFetchWord 32 (encode i).toNat) = exec i s) ∧
  (∀ s : State, s.bus = [] → step s = .next s) ∧
  (∀ (s : State) (f : Fault), step s ≠ .fault f)

/-- Every command completes in every state, with any operands: the answer is a next state, which keeps the parameters, the
waiting accesses and the values read, and only appends to the channels. -/
def Obligations.EveryCommandCompletes : Prop :=
  ∀ (i : Instr) (s : State), ∃ t tx rp ds, exec i s = .next t ∧
    t.cfg = s.cfg ∧ t.bus = s.bus ∧ t.reads = s.reads ∧
    t.txd = s.txd ++ tx ∧ t.report = s.report ++ rp ∧ t.dispatch = s.dispatch ++ ds

/-- R55: a step refuses exactly the accesses that are not 32-bit accesses at a word-aligned offset inside the window. -/
def Obligations.StepRefusesOnlyIllegalAccesses : Prop :=
  ∀ s : State, (∃ e, step s = .refused e) ↔ ∃ a rest, s.bus = a :: rest ∧ ¬ a.Legal s.cfg

/-- R57: a register read changes nothing but the values read, so two reads of a register with no command in between
return one value twice. -/
def Obligations.RegisterReadsAreIdempotent : Prop :=
  ∀ (s : State) (r : Reg) (rest : List Access),
    s.bus = .read 4 (s.cfg.base + r.offset) :: .read 4 (s.cfg.base + r.offset) :: rest →
    ∃ t v, step s = .next t ∧
      t = { s with bus := .read 4 (s.cfg.base + r.offset) :: rest, reads := s.reads ++ [v] } ∧
      step t = .next { s with bus := rest, reads := s.reads ++ [v, v] }

/-- R39: the sixteen offsets, the value each register reads (STATUS, ERR, the information and the configuration registers
have statements of their own), and that only a write to CMD changes the block or the channels. -/
def Obligations.RegisterMap : Prop :=
  Reg.all.map Reg.offset =
    [0x00, 0x04, 0x08, 0x0C, 0x10, 0x14, 0x18, 0x1C, 0x20, 0x24, 0x28, 0x2C, 0x30, 0x34, 0x38, 0x3C] ∧
  (∀ (s : State) (r : Reg) (rest : List Access), s.bus = .read 4 (s.cfg.base + r.offset) :: rest →
    step s = .next { s with bus := rest, reads := s.reads ++ [readReg s.cfg s.blk r] }) ∧
  (∀ (c : Config) (S : Block),
    readReg c S .cmd = 0 ∧ readReg c S .result = S.result ∧ readReg c S .crc = crcFinal c S.crcAcc ∧
    readReg c S .crcRaw = S.crcAcc ∧ readReg c S .ticks = S.now ∧ readReg c S .deadline = S.tmrDeadline ∧
    readReg c S .id = 0x52505431) ∧
  (∀ s t : State, step s = .next t → (∀ w rest, s.bus ≠ .write 4 s.cfg.base w :: rest) →
    t.blk = s.blk ∧ t.txd = s.txd ∧ t.report = s.report ∧ t.dispatch = s.dispatch)

/-- R54: a write to CMD executes its word, a write to any other register has no effect. -/
def Obligations.PortWrites : Prop :=
  ∀ (s : State) (r : Reg) (w : Word) (rest : List Access), s.bus = .write 4 (s.cfg.base + r.offset) w :: rest →
    (r ≠ .cmd → step s = .next { s with bus := rest }) ∧
    (r = .cmd → step s = runWord w { s with bus := rest })

/-- R65: the next access sees all of a command's effects: a read that follows a write to CMD returns the register's value
in the state the command left. -/
def Obligations.ReadSeesTheCommandBefore : Prop :=
  ∀ (s : State) (w : Word) (r : Reg) (rest : List Access),
    s.bus = .write 4 s.cfg.base w :: .read 4 (s.cfg.base + r.offset) :: rest →
    ∃ t, step s = .next t ∧ runWord w { s with bus := rest } = .next { t with bus := rest } ∧
      step t = .next { t with bus := rest, reads := t.reads ++ [readReg t.cfg t.blk r] }

/-- R14: parameters outside the bounds of R5 to R12 make no configuration. -/
def Obligations.ConfigurationsAreBounded : Prop :=
  ∀ p : Params, (∃ c, Config.build p = some c ∧ c.toParams = p) ↔
    (p.maxRetries ≤ 254 ∧ p.ackTimeout ≤ 2 ^ 31 - 1 ∧ 1 ≤ p.maxPayload ∧ p.maxPayload ≤ 65535 ∧
     1 ≤ p.queueDepth ∧ p.queueDepth ≤ 255 ∧
     p.typeAck ≠ p.typeNack ∧ p.typeAck ≠ p.typeDebug ∧ p.typeNack ≠ p.typeDebug ∧ 64 ∣ p.base)

/-! ### The registers -/

/-- R40: every field of STATUS at its bits. -/
def Obligations.StatusFields : Prop :=
  ∀ (c : Config) (S : Block),
    (readReg c S .status).getLsbD 0 = decide (S.txState = .transmit) ∧
    (readReg c S .status).extractLsb' 1 2 = (match S.extEvt with | .none => 0#2 | .ack => 1#2 | .nack => 2#2) ∧
    (readReg c S .status).getLsbD 3 = S.tmrArmed ∧
    (readReg c S .status).getLsbD 4 = S.tmrRaised ∧
    (readReg c S .status).extractLsb' 5 2 = (match S.rxState with | .hunt => 0#2 | .data => 1#2 | .esc => 2#2) ∧
    (readReg c S .status).getLsbD 7 = decide (S.q.length = 0) ∧
    (readReg c S .status).getLsbD 8 = decide (S.q.length = c.queueDepth) ∧
    (readReg c S .status).getLsbD 9 = S.stageOvf ∧
    (readReg c S .status).getLsbD 10 = decide (S.cur ≠ none) ∧
    (readReg c S .status).getLsbD 11 = (match S.cur with | some r => r.ackExpected | none => false) ∧
    (readReg c S .status).extractLsb' 12 4 = 0#4 ∧
    (readReg c S .status).extractLsb' 16 8 = S.retryCnt ∧
    (S.q.length ≤ c.queueDepth → ((readReg c S .status).extractLsb' 24 8).toNat = S.q.length)

/-- R41 and R42: ERR and its bits, STAGE_INFO, RX_INFO and CUR_INFO. -/
def Obligations.ErrAndInfoFields : Prop :=
  (∀ (c : Config) (S : Block), (readReg c S .err).toNat = S.err.toNat) ∧
  [Err.checksumMismatch, .lengthMismatch, .queueFull, .retryBudgetExhausted, .stageOverflow, .illegalCommand,
    .extEventOverrun, .frameAborted].map Err.bit = [0, 1, 2, 3, 4, 5, 6, 7] ∧
  (∀ (c : Config) (S : Block), S.stage.length ≤ c.maxPayload → (readReg c S .stageInfo).toNat = S.stage.length) ∧
  (∀ (c : Config) (S : Block), S.rxBuf.length ≤ c.maxPayload + 7 → (readReg c S .rxInfo).toNat = S.rxBuf.length) ∧
  (∀ (c : Config) (S : Block), S.cur = none → readReg c S .curInfo = 0) ∧
  (∀ (c : Config) (S : Block) (r : Request), S.cur = some r → r.payload.length ≤ c.maxPayload →
    (readReg c S .curInfo).extractLsb' 0 8 = r.type ∧
    ((readReg c S .curInfo).extractLsb' 8 16).toNat = r.payload.length ∧
    (readReg c S .curInfo).extractLsb' 24 8 = 0#8)

/-- R43: every field of the configuration registers, that they are constant, and that CRC_RAW shows P_CRC_INIT after
CRC_INIT. -/
def Obligations.ConfigurationFields : Prop :=
  (∀ (c : Config) (S : Block),
    ((readReg c S .cfg0).extractLsb' 0 8).toNat = c.maxRetries ∧
    ((readReg c S .cfg0).extractLsb' 8 8).toNat = c.queueDepth ∧
    (readReg c S .cfg0).getLsbD 16 = decide (c.rxErrPolicy = .nack) ∧
    (readReg c S .cfg0).getLsbD 17 = c.crcRefin ∧
    (readReg c S .cfg0).getLsbD 18 = c.crcRefout ∧
    (readReg c S .cfg0).extractLsb' 19 13 = 0#13 ∧
    (readReg c S .cfg1).toNat = c.ackTimeout ∧
    ((readReg c S .cfg2).extractLsb' 0 16).toNat = c.maxPayload ∧
    (readReg c S .cfg2).extractLsb' 16 16 = 0#16 ∧
    (readReg c S .cfg3).extractLsb' 0 8 = c.typeAck ∧
    (readReg c S .cfg3).extractLsb' 8 8 = c.typeNack ∧
    (readReg c S .cfg3).extractLsb' 16 8 = c.typeDebug ∧
    (readReg c S .cfg3).extractLsb' 24 8 = 0#8) ∧
  (∀ s t : State, step s = .next t → t.cfg = s.cfg) ∧
  (∀ s : State, ∃ t, exec .crcInit s = .next t ∧ readReg t.cfg t.blk .crcRaw = s.cfg.crcInit)

/-- R93 and R94: what the registers read after reset, for every configuration and for the default parameters. -/
def Obligations.RegistersAfterReset : Prop :=
  (∀ c : Config,
    readReg c (State.powerOn c).blk .status = 0x00000080 ∧
    readReg c (State.powerOn c).blk .ticks = 0 ∧ readReg c (State.powerOn c).blk .deadline = 0 ∧
    readReg c (State.powerOn c).blk .err = 0 ∧ readReg c (State.powerOn c).blk .result = 0 ∧
    readReg c (State.powerOn c).blk .curInfo = 0 ∧
    readReg c (State.powerOn c).blk .crc = crcFinal c c.crcInit ∧
    readReg c (State.powerOn c).blk .id = 0x52505431) ∧
  (∀ (page : Nat) (S : Block),
    crcFinal (Config.standard page) (Config.standard page).crcInit = 0 ∧
    readReg (Config.standard page) S .cfg0 = 0x00060802 ∧
    readReg (Config.standard page) S .cfg1 = 0x00000032 ∧
    readReg (Config.standard page) S .cfg2 = 0x00000040 ∧
    readReg (Config.standard page) S .cfg3 = 0x00441506)

/-! ### The housekeeping commands -/

/-- R49, R89, R187: power-on reset and RESET put every field at its reset value; the channels are empty at power-on, and
RESET leaves everything outside `S` as it is. -/
def Obligations.ResetState : Prop :=
  (∀ c : Config, State.powerOn c =
    { cfg := c
      blk := { txState := .poll, extEvt := .none, retryCnt := 0, cur := none, now := 0, tmrArmed := false,
               tmrDeadline := 0, tmrRaised := false, q := [], stage := [], stageOvf := false, crcAcc := c.crcInit,
               rxState := .hunt, rxBuf := [], result := 0, err := 0 }
      txd := [], report := [], dispatch := [], bus := [], reads := [] }) ∧
  encode .reset = 0x01000000 ∧
  (∀ s : State, exec .reset s = .next { s with
    blk := { txState := .poll, extEvt := .none, retryCnt := 0, cur := none, now := 0, tmrArmed := false,
             tmrDeadline := 0, tmrRaised := false, q := [], stage := [], stageOvf := false, crcAcc := s.cfg.crcInit,
             rxState := .hunt, rxBuf := [], result := 0, err := 0 } })

/-- R88: NOP writes 0 to RESULT and nothing else; its word with a nonzero bit in [23:0] is illegal. -/
def Obligations.NopCommand : Prop :=
  (∀ s : State, exec .nop s = .next { s with blk := { s.blk with result := 0 } }) ∧
  encode .nop = 0x00000000 ∧
  (∀ w : Word, w.extractLsb' 24 8 = 0#8 → w.extractLsb' 0 24 ≠ 0#24 → ∃ e, decode w = .error e) ∧
  exec .nop State.reset = .next State.reset

/-- R90: CLR_ERR clears the ERR bits its mask selects and answers ERR as it was. -/
def Obligations.ClrErrCommand : Prop :=
  (∀ (s : State) (m : Byte), exec (.clrErr m) s = .next { s with
    blk := { s.blk with err := s.blk.err &&& ~~~m, result := s.blk.err.setWidth 32 } }) ∧
  (∀ m : Byte, encode (.clrErr m) = 0x0E000000 ||| m.setWidth 32) ∧
  (∀ s : State, exec (.clrErr 0x00) s = .next { s with blk := { s.blk with result := s.blk.err.setWidth 32 } }) ∧
  (∀ s : State, exec (.clrErr 0xFF) s = .next { s with
    blk := { s.blk with err := 0, result := s.blk.err.setWidth 32 } }) ∧
  (∀ s : State, s.blk.err = 0x0C → exec (.clrErr 0x04) s = .next { s with
    blk := { s.blk with err := 0x08, result := 0x0000000C } })

/-! ### The tick timer -/

/-- R100 with the deadline test of R101. -/
def Obligations.TickCommand : Prop :=
  encode .tick = 0x04000000 ∧
  (∀ s : State,
    exec .tick s = .next { s with
      blk :=
        if s.blk.tmrArmed = true ∧ (s.blk.now + 1 - s.blk.tmrDeadline).toNat < 2 ^ 31 then
          { s.blk with now := s.blk.now + 1, tmrRaised := true, tmrArmed := false, result := 1 }
        else
          { s.blk with now := s.blk.now + 1, result := 0 } }) ∧
  (∀ s : State, s.blk.now = 12 → s.blk.tmrArmed = true → s.blk.tmrDeadline = 13 →
    exec .tick s = .next { s with
      blk := { s.blk with now := 13, tmrRaised := true, tmrArmed := false, result := 1 } })

/-- R101: a timer started with duration d raises on the max(d, 1)-th TICK after the start and on no other, for every d the
timer admits and every tick count, the wrap included; nothing but the timer, the tick counter and RESULT changes. -/
def Obligations.TimerRaisesExactlyAtItsDeadline : Prop :=
  (∀ now deadline : Word, reached now deadline = decide ((now - deadline).toNat < 2 ^ 31)) ∧
  ∀ (s : State) (d : Nat), d ≤ 2 ^ 31 - 1 →
    s.blk.tmrArmed = true → s.blk.tmrRaised = false → s.blk.tmrDeadline = s.blk.now + BitVec.ofNat 32 d →
    ∀ k : Nat, execAll (List.replicate k .tick) s = .next { s with
      blk := { s.blk with
        now := s.blk.now + BitVec.ofNat 32 k
        tmrArmed := decide (k < max d 1)
        tmrRaised := decide (max d 1 ≤ k)
        result := if k = 0 then s.blk.result else if k = max d 1 then 1 else 0 } }

/-! ### The staging buffer and the queue -/

/-- R108. -/
def Obligations.StageClearCommand : Prop :=
  encode .stageClear = 0x06000000 ∧
  ∀ s : State, exec .stageClear s = .next { s with
    blk := { s.blk with stage := [], stageOvf := false, result := 0 } }

/-- R109. -/
def Obligations.StageByteCommand : Prop :=
  (∀ b : Byte, encode (.stageByte b) = 0x07000000 ||| (b.setWidth 32 <<< 16)) ∧
  ∀ (s : State) (b : Byte),
    (s.blk.stage.length = s.cfg.maxPayload → exec (.stageByte b) s = .next { s with
      blk := { s.blk with stageOvf := true, err := s.blk.err ||| 0x10, result := 0 } }) ∧
    (s.blk.stage.length ≠ s.cfg.maxPayload → exec (.stageByte b) s = .next { s with
      blk := { s.blk with stage := s.blk.stage ++ [b], result := 1 } })

/-- R110: the rejection for an overflowed stage, tested first, the rejection for a full queue, and the commit, for every type. -/
def Obligations.EnqueueCommand : Prop :=
  (∀ (t : Byte) (a : Bool), encode (.enqueue t a) =
    0x08000000 ||| (t.setWidth 32 <<< 16) ||| (BitVec.ofBool a).setWidth 32) ∧
  ∀ (s : State) (t : Byte) (a : Bool),
    (s.blk.stageOvf = true → exec (.enqueue t a) s = .next { s with
      blk := { s.blk with err := s.blk.err ||| 0x10, result := 0x00000500 } }) ∧
    (s.blk.stageOvf = false → s.blk.q.length = s.cfg.queueDepth → exec (.enqueue t a) s = .next { s with
      blk := { s.blk with err := s.blk.err ||| 0x04, result := 0x00000300 } }) ∧
    (s.blk.stageOvf = false → s.blk.q.length ≠ s.cfg.queueDepth → exec (.enqueue t a) s = .next { s with
      blk := { s.blk with
        q := s.blk.q ++ [{ type := t, ackExpected := a, payload := s.blk.stage }], result := 0x00000001 } })

/-- R111: SEND_DEBUG is ENQUEUE with the type P_TYPE_DEBUG. -/
def Obligations.SendDebugCommand : Prop :=
  (∀ a : Bool, encode (.sendDebug a) = 0x09000000 ||| (BitVec.ofBool a).setWidth 32) ∧
  ∀ (s : State) (a : Bool),
    (s.blk.stageOvf = true → exec (.sendDebug a) s = .next { s with
      blk := { s.blk with err := s.blk.err ||| 0x10, result := 0x00000500 } }) ∧
    (s.blk.stageOvf = false → s.blk.q.length = s.cfg.queueDepth → exec (.sendDebug a) s = .next { s with
      blk := { s.blk with err := s.blk.err ||| 0x04, result := 0x00000300 } }) ∧
    (s.blk.stageOvf = false → s.blk.q.length ≠ s.cfg.queueDepth → exec (.sendDebug a) s = .next { s with
      blk := { s.blk with
        q := s.blk.q ++ [{ type := s.cfg.typeDebug, ackExpected := a, payload := s.blk.stage }]
        result := 0x00000001 } })

/-- The FIFO law of R114 on the whole block. First, for every state and every sequence of commands but RESET (which empties the
queue): the new requests that RUN sends, in the order it sends them, followed by those that still wait, are those that waited at
first followed by those that the accepted ENQUEUEs and SEND_DEBUGs committed, in their order; a request is sent as its own wire
bytes. Second, for ENQUEUEs of requests that expect no acknowledgement and RUNs in whatever order, within the capacity: every
ENQUEUE is accepted, and TXD and REPORT get exactly the sent requests. -/
def Obligations.QueueIsFifo : Prop :=
  (∀ (s : State) (cmds : List Instr), .reset ∉ cmds →
    ∃ t sent, execAll cmds s = .next t ∧
      sent ++ t.blk.q = s.blk.q ++ trace acceptedBy cmds s ∧
      trace firstCopyBy cmds s = sent.map (fun r => wire s.cfg r.type r.payload)) ∧
  ∀ (s : State) (cmds : List Instr),
    s.blk.txState = .poll → s.blk.stageOvf = false → (∀ r ∈ s.blk.q, r.ackExpected = false) →
    (∀ i ∈ cmds, i = .run ∨ ∃ t, i = .enqueue t false) →
    s.blk.q.length + (enqueued s.blk.stage cmds).length ≤ s.cfg.queueDepth →
    ∃ t sent, execAll cmds s = .next t ∧
      sent ++ t.blk.q = s.blk.q ++ enqueued s.blk.stage cmds ∧
      t.txd = s.txd ++ sent.flatMap (fun r => wire s.cfg r.type r.payload) ∧
      t.report = s.report ++ sent.map (fun r => { code := 0x02, type := r.type, count := 1 }) ∧
      t.blk.txState = .poll

/-! ### The CRC accumulator -/

/-- R124. -/
def Obligations.CrcInitCommand : Prop :=
  encode .crcInit = 0x0A000000 ∧
  (∀ s : State, exec .crcInit s = .next { s with blk := { s.blk with crcAcc := s.cfg.crcInit, result := 0 } }) ∧
  ∃ t, exec .crcInit State.reset = .next t ∧
    readReg t.cfg t.blk .crcRaw = 0xFFFFFFFF ∧ readReg t.cfg t.blk .crc = 0x00000000

/-- R125: one byte is folded in, and no command but CRC_INIT, CRC_BYTE and RESET touches the accumulator. -/
def Obligations.CrcByteCommand : Prop :=
  (∀ b : Byte, encode (.crcByte b) = 0x0B000000 ||| (b.setWidth 32 <<< 16)) ∧
  (∀ (s : State) (b : Byte), exec (.crcByte b) s = .next { s with
    blk := { s.blk with crcAcc := crcStep s.cfg s.blk.crcAcc b, result := 0 } }) ∧
  (∀ (i : Instr) (s t : State), exec i s = .next t →
    i ≠ .crcInit → (∀ b, i ≠ .crcByte b) → i ≠ .reset → t.blk.crcAcc = s.blk.crcAcc) ∧
  (∃ t, exec (.crcByte 0xFF) State.reset = .next t ∧ readReg t.cfg t.blk .crcRaw = 0xFFFFFF00) ∧
  (∃ t, exec (.crcByte 0x31) State.reset = .next t ∧
    readReg t.cfg t.blk .crcRaw = 0x1208C43E ∧ readReg t.cfg t.blk .crc = 0x83DCEFB7)

/-- R126: the checksum is answered and the accumulator stays. -/
def Obligations.CrcReadCommand : Prop :=
  encode .crcRead = 0x0C000000 ∧
  (∀ s : State, exec .crcRead s = .next { s with blk := { s.blk with result := crcFinal s.cfg s.blk.crcAcc } }) ∧
  (∀ s : State, readReg s.cfg s.blk .crc = crcFinal s.cfg s.blk.crcAcc) ∧
  (∃ t, execAll ([.crcInit] ++
      ([0x31, 0x32, 0x33, 0x34, 0x35, 0x36, 0x37, 0x38, 0x39] : List Byte).map .crcByte ++ [.crcRead]) State.reset
        = .next t ∧ t.blk.result = 0xCBF43926)

/-- R119, R121 and R123: reflection bit by bit, the eight shifts of one byte, and the final reflection and XOR. -/
def Obligations.CrcStepAndFinal : Prop :=
  (∀ (b : Byte) (i : Nat), i < 8 → (refl8 b).getLsbD i = b.getLsbD (7 - i)) ∧
  (∀ (x : Word) (i : Nat), i < 32 → (refl32 x).getLsbD i = x.getLsbD (31 - i)) ∧
  refl8 0x01 = 0x80 ∧ refl8 0x31 = 0x8C ∧ refl32 0x9B63D02C = 0x340BC6D9 ∧
  (∀ (c : Config) (acc : Word) (b : Byte), crcStep c acc b =
    (fun a : Word => if a.getLsbD 31 = true then (a <<< 1) ^^^ c.crcPoly else a <<< 1)^[8]
      (acc ^^^ ((if c.crcRefin = true then refl8 b else b).setWidth 32 <<< 24))) ∧
  (∀ (c : Config) (acc : Word),
    crcFinal c acc = (if c.crcRefout = true then refl32 acc else acc) ^^^ c.crcXorout) ∧
  (∀ (c : Config) (bs : List Byte), crc32 c bs = crcFinal c (crcFold c c.crcInit bs))

/-- R122: the fold, and the accumulation law. -/
def Obligations.CrcAccumulationLaw : Prop :=
  ∀ c : Config,
    (∀ acc : Word, crcFold c acc [] = acc) ∧
    (∀ (acc : Word) (b : Byte) (rest : List Byte), crcFold c acc ([b] ++ rest) = crcFold c (crcStep c acc b) rest) ∧
    (∀ (acc : Word) (xs ys : List Byte), crcFold c (crcFold c acc xs) ys = crcFold c acc (xs ++ ys))

/-- R127: the check values of the two presets. -/
def Obligations.CrcCheckValues : Prop :=
  crcFold (Config.standard 0) (Config.standard 0).crcInit [0x31, 0x32, 0x33, 0x34, 0x35, 0x36, 0x37, 0x38, 0x39]
    = 0x9B63D02C ∧
  crc32 (Config.standard 0) [0x31, 0x32, 0x33, 0x34, 0x35, 0x36, 0x37, 0x38, 0x39] = 0xCBF43926 ∧
  crc32 Config.mpeg2 [0x31, 0x32, 0x33, 0x34, 0x35, 0x36, 0x37, 0x38, 0x39] = 0x0376E6E7

/-- R128: the reflected form computes the same register, reflected, and the same checksum of every byte list. -/
def Obligations.ReflectedCrcIsEquivalent : Prop :=
  refl32 0x04C11DB7 = 0xEDB88320 ∧
  (∀ (c : Config) (racc : Word) (b : Byte), reflStep c racc b =
    (fun r : Word => (r >>> 1) ^^^ (if r.getLsbD 0 = true then refl32 c.crcPoly else 0))^[8]
      (racc ^^^ b.setWidth 32)) ∧
  ∀ c : Config, c.crcRefin = true → c.crcRefout = true →
    (∀ (acc : Word) (b : Byte), reflStep c (refl32 acc) b = refl32 (crcStep c acc b)) ∧
    (∀ acc : Word, crcFinal c acc = refl32 acc ^^^ c.crcXorout) ∧
    (∀ bs : List Byte, crc32 c bs = bs.foldl (reflStep c) (refl32 c.crcInit) ^^^ c.crcXorout)

/-- The single-bit error detection of 43_crc.md and 44_codec.md with the default polynomial: every single-bit change of a
byte list changes its checksum, and every single-bit change of a frame is rejected, as LengthMismatch in the length field
and as ChecksumMismatch anywhere else. -/
def Obligations.SingleBitErrorsAreDetected : Prop :=
  ∀ c : Config, c.crcPoly = 0x04C11DB7 →
    (∀ (bs : List Byte) (i j : Nat), i < bs.length → j < 8 → crc32 c (flipBit bs i j) ≠ crc32 c bs) ∧
    (∀ (t : Byte) (p : List Byte) (i j : Nat), p.length ≤ c.maxPayload → i < p.length + 7 → j < 8 →
      decodeFrame c (flipBit (frame c t p) i j) =
        if i = 1 ∨ i = 2 then .lengthMismatch else .checksumMismatch)

/-! ### The frame codec -/

/-- R130, R131 and R133: the layout of a frame, its checksum that of the content in one pass. R134: byte stuffing, the escape
for 0x7E and 0x7D alone, and the wire bytes between two flags. -/
def Obligations.FrameLayout : Prop :=
  (∀ (c : Config) (t : Byte) (p : List Byte), p.length ≤ c.maxPayload →
    content t p = [t, BitVec.ofNat 8 p.length, BitVec.ofNat 8 (p.length / 256)] ++ p ∧
    codecChecksum c t p = crc32 c (content t p) ∧
    frame c t p = content t p ++
      [(crc32 c (content t p)).extractLsb' 0 8, (crc32 c (content t p)).extractLsb' 8 8,
       (crc32 c (content t p)).extractLsb' 16 8, (crc32 c (content t p)).extractLsb' 24 8] ∧
    (frame c t p).length = p.length + 7) ∧
  stuff [] = [] ∧
  (∀ (b : Byte) (r : List Byte),
    stuff ([b] ++ r) = (if b = 0x7E ∨ b = 0x7D then [0x7D, b ^^^ 0x20] else [b]) ++ stuff r) ∧
  stuff [0x7E] = [0x7D, 0x5E] ∧ stuff [0x7D] = [0x7D, 0x5D] ∧
  (∀ (c : Config) (t : Byte) (p : List Byte), wire c t p = [0x7E] ++ stuff (frame c t p) ++ [0x7E])

/-- R138: decoding a frame gives its type and payload back. -/
def Obligations.DecodeOfFrame : Prop :=
  ∀ (c : Config) (t : Byte) (p : List Byte), p.length ≤ c.maxPayload → decodeFrame c (frame c t p) = .ok t p

/-- R136 and R137: the length checks come first, whatever the checksum; with the length right, the checksum of all but the last
four bytes against those four, little-endian, decides. -/
def Obligations.LengthIsCheckedFirst : Prop :=
  ∀ (c : Config) (f : List Byte),
    (f.length < 7 ∨ (f.getD 1 0).toNat + 256 * (f.getD 2 0).toNat ≠ f.length - 7 →
      decodeFrame c f = .lengthMismatch) ∧
    (7 ≤ f.length → (f.getD 1 0).toNat + 256 * (f.getD 2 0).toNat = f.length - 7 →
      decodeFrame c f =
        if (crc32 c (f.take (f.length - 4))).toNat =
            (f.getD (f.length - 4) 0).toNat + 2 ^ 8 * (f.getD (f.length - 3) 0).toNat +
              2 ^ 16 * (f.getD (f.length - 2) 0).toNat + 2 ^ 24 * (f.getD (f.length - 1) 0).toNat then
          .ok (f.getD 0 0) ((f.take (f.length - 4)).drop 3)
        else .checksumMismatch)

/-- R141: the encoded sizes and when the upper bound is reached. -/
def Obligations.EncodedSizes : Prop :=
  ∀ (c : Config) (t : Byte) (p : List Byte),
    (frame c t p).length = p.length + 7 ∧
    p.length + 9 ≤ (wire c t p).length ∧ (wire c t p).length ≤ 2 * (p.length + 7) + 2 ∧
    ((∀ b ∈ frame c t p, b = 0x7E ∨ b = 0x7D) → (wire c t p).length = 2 * (p.length + 7) + 2)

/-- R135: unstuffing inverts stuffing: after an opening flag and the stuffed bytes, fed from HUNT or from DATA with an
empty buffer, the buffer holds exactly the bytes, ready for the closing flag; the stuffed bytes hold no flag; nothing else
of the state has changed. -/
def Obligations.UnstuffingInvertsStuffing : Prop :=
  ∀ (s : State) (x : List Byte), x.length ≤ s.cfg.maxPayload + 7 →
    s.blk.rxState = .hunt ∨ s.blk.rxState = .data ∧ s.blk.rxBuf = [] →
    (0x7E#8 ∉ stuff x) ∧
    execAll (rxBytes (0x7E#8 :: stuff x)) s = .next { s with
      blk := { s.blk with rxState := .data, rxBuf := x, result := 0 } }

/-- What RUN sends, RX_BYTE receives: a whole wire frame fed from HUNT or from DATA with an empty buffer is accepted at its
closing flag and routed by its type, for every type and every payload in bound. -/
def Obligations.WireFramesAreReceived : Prop :=
  ∀ (s : State) (t : Byte) (p : List Byte), p.length ≤ s.cfg.maxPayload →
    s.blk.rxState = .hunt ∨ s.blk.rxState = .data ∧ s.blk.rxBuf = [] →
    execAll (rxBytes (wire s.cfg t p)) s = .next (
      if t = s.cfg.typeAck then { s with
        blk := { s.blk with
          rxState := .data, rxBuf := [], extEvt := .ack, result := 2
          err := if s.blk.extEvt = .none then s.blk.err else s.blk.err ||| 0x40 } }
      else if t = s.cfg.typeNack then { s with
        blk := { s.blk with
          rxState := .data, rxBuf := [], extEvt := .nack, result := 3
          err := if s.blk.extEvt = .none then s.blk.err else s.blk.err ||| 0x40 } }
      else { s with
        blk := { s.blk with rxState := .data, rxBuf := [], result := 1 }
        dispatch := s.dispatch ++ [{ type := t, payload := p }] })

/-! ### The transmit FSM -/

/-- R143. -/
def Obligations.InitCommand : Prop :=
  encode .init = 0x02000000 ∧
  ∀ s : State, exec .init s = .next { s with
    blk := { s.blk with
      txState := .poll, retryCnt := 0, cur := none, extEvt := .none, tmrArmed := false, tmrRaised := false
      result := 0 } }

/-- The transition table of R158, row by row, in a state that keeps the invariants of R48: the whole next state. -/
def Obligations.RunTransitionTable : Prop :=
  encode .run = 0x03000000 ∧
  ∀ s : State, s.Inv →
    (s.blk.txState = .poll → s.blk.q = [] →
      exec .run s = .next { s with blk := { s.blk with extEvt := .none, retryCnt := 0, result := 0 } }) ∧
    (∀ r rest, s.blk.txState = .poll → s.blk.q = r :: rest → r.ackExpected = true →
      exec .run s = .next { s with
        blk := { s.blk with
          extEvt := .none, q := rest, retryCnt := 0, cur := some r, txState := .transmit, result := 1
          tmrDeadline := s.blk.now + BitVec.ofNat 32 s.cfg.ackTimeout, tmrArmed := true, tmrRaised := false }
        txd := s.txd ++ wire s.cfg r.type r.payload }) ∧
    (∀ r rest, s.blk.txState = .poll → s.blk.q = r :: rest → r.ackExpected = false →
      exec .run s = .next { s with
        blk := { s.blk with extEvt := .none, q := rest, retryCnt := 0, result := 5 }
        txd := s.txd ++ wire s.cfg r.type r.payload
        report := s.report ++ [{ code := 0x02, type := r.type, count := 1 }] }) ∧
    (s.blk.txState = .transmit → ∃ r, s.blk.cur = some r) ∧
    (∀ r, s.blk.txState = .transmit → s.blk.cur = some r → s.blk.extEvt = .ack →
      exec .run s = .next { s with
        blk := { s.blk with
          extEvt := .none, retryCnt := 0, tmrArmed := false, cur := none, txState := .poll, result := 2 }
        report := s.report ++
          [{ code := 0x01, type := r.type, count := BitVec.ofNat 8 (s.blk.retryCnt.toNat + 1) }] }) ∧
    (∀ r, s.blk.txState = .transmit → s.blk.cur = some r → s.blk.extEvt ≠ .ack →
      s.blk.extEvt = .nack ∨ s.blk.tmrRaised = true → s.blk.retryCnt.toNat + 1 ≤ s.cfg.maxRetries →
      exec .run s = .next { s with
        blk := { s.blk with
          extEvt := .none, retryCnt := BitVec.ofNat 8 (s.blk.retryCnt.toNat + 1), result := 3
          tmrDeadline := s.blk.now + BitVec.ofNat 32 s.cfg.ackTimeout, tmrArmed := true, tmrRaised := false }
        txd := s.txd ++ wire s.cfg r.type r.payload }) ∧
    (∀ r, s.blk.txState = .transmit → s.blk.cur = some r → s.blk.extEvt ≠ .ack →
      s.blk.extEvt = .nack ∨ s.blk.tmrRaised = true → s.cfg.maxRetries < s.blk.retryCnt.toNat + 1 →
      exec .run s = .next { s with
        blk := { s.blk with
          extEvt := .none, retryCnt := 0, tmrArmed := false, cur := none, txState := .poll, result := 4
          err := s.blk.err ||| 0x08 }
        report := s.report ++
          [{ code := 0x03, type := r.type, count := BitVec.ofNat 8 (s.cfg.maxRetries + 1) }] }) ∧
    (s.blk.txState = .transmit → s.blk.extEvt = .none → s.blk.tmrRaised = false →
      exec .run s = .next { s with blk := { s.blk with result := 0 } })

/-- Every RUN, in any state: the mailbox is consumed, at most one frame is sent, at most one request leaves the queue, its
head, and only in POLL, and at most one record is reported (R144, R154). -/
def Obligations.RunTakesAtMostOneTransition : Prop :=
  ∀ s : State, ∃ t, exec .run s = .next t ∧ t.blk.extEvt = .none ∧
    (t.txd = s.txd ∨ ∃ ty p, t.txd = s.txd ++ wire s.cfg ty p) ∧
    (t.blk.q = s.blk.q ∨ s.blk.txState = .poll ∧ ∃ r, s.blk.q = r :: t.blk.q) ∧
    (t.report = s.report ∨ ∃ rec, t.report = s.report ++ [rec]) ∧
    t.dispatch = s.dispatch

/-- R151 with the mailbox write of R150: the event replaces what the mailbox held, and an overrun is recorded; every other
event code is illegal; an event posted in POLL is ignored by the next RUN. -/
def Obligations.SetExtEventCommands : Prop :=
  encode .setExtEventAck = 0x05010000 ∧ encode .setExtEventNack = 0x05020000 ∧
  (∀ w : Word, w.extractLsb' 24 8 = 0x05#8 → w.extractLsb' 16 8 ≠ 0x01#8 → w.extractLsb' 16 8 ≠ 0x02#8 →
    ∃ e, decode w = .error e) ∧
  (∀ (s : State) (e : ExtEvent), s.blk.txState = .poll →
    exec .run { s with blk := { s.blk with extEvt := e } } = exec .run { s with blk := { s.blk with extEvt := .none } }) ∧
  (∀ s : State, exec .setExtEventAck s = .next { s with
    blk := { s.blk with
      extEvt := .ack
      err := if s.blk.extEvt = .none then s.blk.err else s.blk.err ||| 0x40
      result := if s.blk.extEvt = .none then 0 else 1 } }) ∧
  (∀ s : State, exec .setExtEventNack s = .next { s with
    blk := { s.blk with
      extEvt := .nack
      err := if s.blk.extEvt = .none then s.blk.err else s.blk.err ||| 0x40
      result := if s.blk.extEvt = .none then 0 else 1 } }) ∧
  (∃ t u, exec .setExtEventAck State.reset = .next t ∧ t.blk.extEvt = .ack ∧ t.blk.result = 0 ∧
    exec .setExtEventNack t = .next u ∧ u.blk.extEvt = .nack ∧ u.blk.result = 1 ∧ u.blk.err = 0x40)

/-- Attempt counting (R155) for a request that expects an acknowledgement, from the RUN that sends it. First, over any commands
but RESET and INIT (which end the request, R157): idle RUNs, TICKs, SET_EXT_EVENTs, RX_BYTEs, ENQUEUEs and all the rest, in any
order, as long as no RUN sees an ACK and n RUNs see a NACK or a timeout. Up to the budget the RUNs have sent n + 1 identical
copies and reported nothing; a RUN that then sees an ACK delivers the request with the count n + 1; a RUN that sees one more
NACK or timeout than the budget abandons it, with P_MAX_RETRIES + 1 copies sent. Second, with rounds of
a posted NACK and a RUN, or of the TICKs of one timeout and a RUN: each round does fail, so the same counts come about. -/
def Obligations.AttemptsAreCounted : Prop :=
  (∀ (s : State) (r : Request) (rest : List Request) (cs : List Instr) (n : Nat),
    s.blk.txState = .poll → s.blk.q = r :: rest → r.ackExpected = true → .reset ∉ cs → .init ∉ cs →
    trace ackSeen (.run :: cs) s = [] → (trace failureSeen (.run :: cs) s).length = n → n ≤ s.cfg.maxRetries →
    ∃ u, execAll (.run :: cs) s = .next u ∧
      trace copyBy (.run :: cs) s = List.replicate (n + 1) (wire s.cfg r.type r.payload) ∧
      trace reportsBy (.run :: cs) s = [] ∧
      u.blk.txState = .transmit ∧ u.blk.cur = some r ∧ u.blk.retryCnt.toNat = n ∧
      (u.seesAck = true → ∃ t, exec .run u = .next t ∧ t.txd = u.txd ∧
        t.report = u.report ++ [{ code := 0x01, type := r.type, count := BitVec.ofNat 8 (n + 1) }] ∧
        t.blk.txState = .poll ∧ t.blk.cur = none ∧ t.blk.retryCnt = 0) ∧
      (u.seesFailure = true → n = s.cfg.maxRetries → ∃ t, exec .run u = .next t ∧ t.txd = u.txd ∧
        t.report = u.report ++ [{ code := 0x03, type := r.type, count := BitVec.ofNat 8 (n + 1) }] ∧
        t.blk.txState = .poll ∧ t.blk.cur = none ∧ t.blk.retryCnt = 0 ∧ t.blk.err.getLsbD 3 = true)) ∧
  ∀ (s : State) (r : Request) (rest : List Request) (ks : List Bool),
    s.blk.txState = .poll → s.blk.q = r :: rest → r.ackExpected = true →
    (ks.length ≤ s.cfg.maxRetries →
      ∃ t, execAll (.run :: unackedRounds s.cfg ks) s = .next t ∧
        t.txd = s.txd ++ copies (ks.length + 1) (wire s.cfg r.type r.payload) ∧ t.report = s.report ∧
        t.blk.txState = .transmit ∧ t.blk.cur = some r ∧ t.blk.retryCnt.toNat = ks.length ∧ t.blk.q = rest) ∧
    (ks.length = s.cfg.maxRetries + 1 →
      ∃ t, execAll (.run :: unackedRounds s.cfg ks) s = .next t ∧
        t.txd = s.txd ++ copies (s.cfg.maxRetries + 1) (wire s.cfg r.type r.payload) ∧
        t.report = s.report ++ [{ code := 0x03, type := r.type, count := BitVec.ofNat 8 (s.cfg.maxRetries + 1) }] ∧
        t.blk.txState = .poll ∧ t.blk.cur = none ∧ t.blk.retryCnt = 0 ∧ t.blk.err.getLsbD 3 = true ∧ t.blk.q = rest) ∧
    (ks.length ≤ s.cfg.maxRetries →
      ∃ t, execAll (.run :: unackedRounds s.cfg ks ++ [.setExtEventAck, .run]) s = .next t ∧
        t.txd = s.txd ++ copies (ks.length + 1) (wire s.cfg r.type r.payload) ∧
        t.report = s.report ++ [{ code := 0x01, type := r.type, count := BitVec.ofNat 8 (ks.length + 1) }] ∧
        t.blk.txState = .poll ∧ t.blk.cur = none ∧ t.blk.retryCnt = 0 ∧ t.blk.q = rest)

/-- The spacing of retransmissions (R156): right after the first copy, with P_ACK_TIMEOUT >= 1 and no acknowledgement, n
iterations of the superloop have sent exactly n / P_ACK_TIMEOUT more copies, until the budget is spent; the iteration that
ends the last timeout abandons the request. -/
def Obligations.RetransmissionsAreSpaced : Prop :=
  ∀ (s : State) (r : Request), 1 ≤ s.cfg.ackTimeout →
    s.blk.txState = .transmit → s.blk.cur = some r → s.blk.extEvt = .none → s.blk.retryCnt = 0 →
    s.blk.tmrArmed = true → s.blk.tmrRaised = false →
    s.blk.tmrDeadline = s.blk.now + BitVec.ofNat 32 s.cfg.ackTimeout →
    (∀ n, n < s.cfg.ackTimeout * (s.cfg.maxRetries + 1) →
      ∃ t, execAll (iterations n) s = .next t ∧
        t.txd = s.txd ++ copies (n / s.cfg.ackTimeout) (wire s.cfg r.type r.payload) ∧ t.report = s.report ∧
        t.blk.txState = .transmit ∧ t.blk.retryCnt.toNat = n / s.cfg.ackTimeout ∧
        t.blk.now = s.blk.now + BitVec.ofNat 32 n) ∧
    ∃ t, execAll (iterations (s.cfg.ackTimeout * (s.cfg.maxRetries + 1))) s = .next t ∧
      t.txd = s.txd ++ copies s.cfg.maxRetries (wire s.cfg r.type r.payload) ∧
      t.report = s.report ++ [{ code := 0x03, type := r.type, count := BitVec.ofNat 8 (s.cfg.maxRetries + 1) }] ∧
      t.blk.txState = .poll

/-! ### The receive FSM -/

/-- R160, R162, R163 and R167 with the plain bytes of R161: what one RX_BYTE does when it closes no frame. -/
def Obligations.RxByteCollects : Prop :=
  (∀ b : Byte, encode (.rxByte b) = 0x0D000000 ||| (b.setWidth 32 <<< 16)) ∧
  ∀ (s : State) (b : Byte),
    (s.blk.rxState = .hunt → b ≠ 0x7E → exec (.rxByte b) s = .next { s with blk := { s.blk with result := 0 } }) ∧
    (s.blk.rxState = .hunt → b = 0x7E → exec (.rxByte b) s = .next { s with
      blk := { s.blk with rxBuf := [], rxState := .data, result := 0 } }) ∧
    (s.blk.rxState = .data → b = 0x7E → s.blk.rxBuf = [] →
      exec (.rxByte b) s = .next { s with blk := { s.blk with result := 0 } }) ∧
    (s.blk.rxState = .data → b = 0x7D → exec (.rxByte b) s = .next { s with
      blk := { s.blk with rxState := .esc, result := 0 } }) ∧
    (s.blk.rxState = .data → b ≠ 0x7E → b ≠ 0x7D → s.blk.rxBuf.length ≠ s.cfg.maxPayload + 7 →
      exec (.rxByte b) s = .next { s with blk := { s.blk with rxBuf := s.blk.rxBuf ++ [b], result := 0 } }) ∧
    (s.blk.rxState = .esc → b ≠ 0x7E → s.blk.rxBuf.length ≠ s.cfg.maxPayload + 7 →
      exec (.rxByte b) s = .next { s with
        blk := { s.blk with rxBuf := s.blk.rxBuf ++ [b ^^^ 0x20], rxState := .data, result := 0 } }) ∧
    (s.blk.rxState = .data ∧ b ≠ 0x7E ∧ b ≠ 0x7D ∨ s.blk.rxState = .esc ∧ b ≠ 0x7E →
      s.blk.rxBuf.length = s.cfg.maxPayload + 7 →
      exec (.rxByte b) s = .next { s with
        blk := { s.blk with rxBuf := [], rxState := .hunt, err := s.blk.err ||| 0x02, result := 5 }
        report := s.report ++ [{ code := 0x12, type := s.blk.rxBuf.headD 0, count := 0 }]
        txd := s.txd ++ if s.cfg.rxErrPolicy = .nack then wire s.cfg s.cfg.typeNack [] else [] }) ∧
    (s.blk.rxState = .esc → b = 0x7E → exec (.rxByte b) s = .next { s with
      blk := { s.blk with rxBuf := [], rxState := .data, err := s.blk.err ||| 0x80, result := 6 }
      report := s.report ++ [{ code := 0x13, type := s.blk.rxBuf.headD 0, count := 0 }] })

/-- R164, R165 and R166: the flag that closes a frame, by what `decode_frame` says of the buffer. -/
def Obligations.RxByteClosesFrame : Prop :=
  ∀ s : State, s.blk.rxState = .data → s.blk.rxBuf ≠ [] →
    (decodeFrame s.cfg s.blk.rxBuf = .lengthMismatch → exec (.rxByte 0x7E) s = .next { s with
      blk := { s.blk with rxBuf := [], err := s.blk.err ||| 0x02, result := 5 }
      report := s.report ++ [{ code := 0x12, type := s.blk.rxBuf.headD 0, count := 0 }]
      txd := s.txd ++ if s.cfg.rxErrPolicy = .nack then wire s.cfg s.cfg.typeNack [] else [] }) ∧
    (decodeFrame s.cfg s.blk.rxBuf = .checksumMismatch → exec (.rxByte 0x7E) s = .next { s with
      blk := { s.blk with rxBuf := [], err := s.blk.err ||| 0x01, result := 4 }
      report := s.report ++ [{ code := 0x11, type := s.blk.rxBuf.headD 0, count := 0 }]
      txd := s.txd ++ if s.cfg.rxErrPolicy = .nack then wire s.cfg s.cfg.typeNack [] else [] }) ∧
    (∀ p, decodeFrame s.cfg s.blk.rxBuf = .ok s.cfg.typeAck p → exec (.rxByte 0x7E) s = .next { s with
      blk := { s.blk with
        rxBuf := [], extEvt := .ack, result := 2
        err := if s.blk.extEvt = .none then s.blk.err else s.blk.err ||| 0x40 } }) ∧
    (∀ p, decodeFrame s.cfg s.blk.rxBuf = .ok s.cfg.typeNack p → exec (.rxByte 0x7E) s = .next { s with
      blk := { s.blk with
        rxBuf := [], extEvt := .nack, result := 3
        err := if s.blk.extEvt = .none then s.blk.err else s.blk.err ||| 0x40 } }) ∧
    (∀ t p, decodeFrame s.cfg s.blk.rxBuf = .ok t p → t ≠ s.cfg.typeAck → t ≠ s.cfg.typeNack →
      exec (.rxByte 0x7E) s = .next { s with
        blk := { s.blk with rxBuf := [], result := 1 }
        dispatch := s.dispatch ++ [{ type := t, payload := p }] })

/-- Resynchronisation (R169): two flags bring the receive FSM from any state to DATA with an empty buffer; from HUNT and
from DATA one flag does. -/
def Obligations.TwoFlagsResynchronise : Prop :=
  ∀ s : State,
    (∃ t, execAll (rxBytes [0x7E, 0x7E]) s = .next t ∧ t.blk.rxState = .data ∧ t.blk.rxBuf = []) ∧
    (s.blk.rxState ≠ .esc →
      ∃ t, exec (.rxByte 0x7E) s = .next t ∧ t.blk.rxState = .data ∧ t.blk.rxBuf = [])

/-- R171: RX_BYTE depends on the receive state, the byte and the parameters alone: two states that agree on those give the
same receive state, response, output, ERR bits raised (but for the overrun) and event posted; and it changes no other field
of `S`. -/
def Obligations.ReceiveIgnoresTransmit : Prop :=
  ∀ (s s' : State) (b : Byte),
    s.cfg = s'.cfg → s.blk.rxState = s'.blk.rxState → s.blk.rxBuf = s'.blk.rxBuf →
    ∃ t t' tx rp ds, exec (.rxByte b) s = .next t ∧ exec (.rxByte b) s' = .next t' ∧
      t.blk.rxState = t'.blk.rxState ∧ t.blk.rxBuf = t'.blk.rxBuf ∧ t.blk.result = t'.blk.result ∧
      t.txd = s.txd ++ tx ∧ t'.txd = s'.txd ++ tx ∧
      t.report = s.report ++ rp ∧ t'.report = s'.report ++ rp ∧
      t.dispatch = s.dispatch ++ ds ∧ t'.dispatch = s'.dispatch ++ ds ∧
      (∃ m : Byte, t.blk.err &&& 0xBF = (s.blk.err ||| m) &&& 0xBF ∧
        t'.blk.err &&& 0xBF = (s'.blk.err ||| m) &&& 0xBF) ∧
      (t.blk.extEvt = s.blk.extEvt ∧ t'.blk.extEvt = s'.blk.extEvt ∨
        t.blk.extEvt = t'.blk.extEvt ∧ t.blk.extEvt ≠ .none) ∧
      { t.blk with
        rxState := s.blk.rxState, rxBuf := s.blk.rxBuf, extEvt := s.blk.extEvt, err := s.blk.err
        result := s.blk.result } = s.blk

/-! ### The whole machine -/

/-- R38 and R173: an ERR bit is cleared by CLR_ERR with that bit in its mask or by RESET only, and set only by a command whose
rule raises that error. -/
def Obligations.ErrBitsAreSticky : Prop :=
  ∀ (i : Instr) (s t : State) (n : Nat), n < 8 → exec i s = .next t →
    (s.blk.err.getLsbD n = true → t.blk.err.getLsbD n = false →
      i = .reset ∨ ∃ m, i = .clrErr m ∧ m.getLsbD n = true) ∧
    (s.blk.err.getLsbD n = false → t.blk.err.getLsbD n = true → raisesBit n i)

/-- Which commands write which field (R23 to R36, R38, R44 to R46): a field that differs after a command was written by one of
the commands its rule names. RESULT has no clause: every command writes it (R37). -/
def Obligations.OnlyTheNamedCommandsWrite : Prop :=
  ∀ (i : Instr) (s t : State), exec i s = .next t →
    (t.blk.txState ≠ s.blk.txState → i = .run ∨ i = .init ∨ i = .reset) ∧
    (t.blk.extEvt ≠ s.blk.extEvt →
      i = .setExtEventAck ∨ i = .setExtEventNack ∨ (∃ b, i = .rxByte b) ∨ i = .run ∨ i = .init ∨ i = .reset) ∧
    (t.blk.retryCnt ≠ s.blk.retryCnt → i = .run ∨ i = .init ∨ i = .reset) ∧
    (t.blk.cur ≠ s.blk.cur → i = .run ∨ i = .init ∨ i = .reset) ∧
    (t.blk.now ≠ s.blk.now → i = .tick ∨ i = .reset) ∧
    (t.blk.tmrArmed ≠ s.blk.tmrArmed → i = .run ∨ i = .tick ∨ i = .init ∨ i = .reset) ∧
    (t.blk.tmrDeadline ≠ s.blk.tmrDeadline → i = .run ∨ i = .reset) ∧
    (s.blk.tmrRaised = false → t.blk.tmrRaised = true → i = .tick) ∧
    (s.blk.tmrRaised = true → t.blk.tmrRaised = false → i = .run ∨ i = .init ∨ i = .reset) ∧
    (t.blk.q ≠ s.blk.q → (∃ ty a, i = .enqueue ty a) ∨ (∃ a, i = .sendDebug a) ∨ i = .run ∨ i = .reset) ∧
    (t.blk.stage ≠ s.blk.stage ∨ t.blk.stageOvf ≠ s.blk.stageOvf →
      i = .stageClear ∨ (∃ b, i = .stageByte b) ∨ i = .reset) ∧
    (t.blk.crcAcc ≠ s.blk.crcAcc → i = .crcInit ∨ (∃ b, i = .crcByte b) ∨ i = .reset) ∧
    (t.blk.rxState ≠ s.blk.rxState ∨ t.blk.rxBuf ≠ s.blk.rxBuf → (∃ b, i = .rxByte b) ∨ i = .reset) ∧
    (t.blk.err ≠ s.blk.err → (∃ n, n < 8 ∧ raisesBit n i) ∨ (∃ m, i = .clrErr m) ∨ i = .reset) ∧
    (t.txd ≠ s.txd ∨ t.report ≠ s.report → i = .run ∨ ∃ b, i = .rxByte b) ∧
    (t.dispatch ≠ s.dispatch → ∃ b, i = .rxByte b)

/-- R84: what a command does to `S` and what it appends depend on the parameters, `S` and the command alone, never on what
the channels already hold, on the accesses that wait or on the values read. -/
def Obligations.CommandsDependOnTheBlockAlone : Prop :=
  ∀ (i : Instr) (s s' : State), s.cfg = s'.cfg → s.blk = s'.blk →
    ∃ t t' tx rp ds, exec i s = .next t ∧ exec i s' = .next t' ∧ t.blk = t'.blk ∧
      t.txd = s.txd ++ tx ∧ t'.txd = s'.txd ++ tx ∧
      t.report = s.report ++ rp ∧ t'.report = s'.report ++ rp ∧
      t.dispatch = s.dispatch ++ ds ∧ t'.dispatch = s'.dispatch ++ ds

/-- The invariants of R48 hold after power-on reset of every configuration, the model's `State.reset` among them. -/
def Obligations.InvariantsAtPowerOn : Prop := (∀ c : Config, (State.powerOn c).Inv) ∧ State.reset.Inv

/-- Every step keeps the invariants of R48, from every state that has them. -/
def Obligations.StepKeepsInvariants : Prop := ∀ s t : State, s.Inv → step s = .next t → t.Inv

/-- R48: the invariants I1 to I7 hold in every state reachable from power-on under any interleaving of accesses. -/
def Obligations.ReachableStatesKeepInvariants : Prop :=
  ∀ (c : Config) (s : State), Reachable c s →
    (s.blk.tmrArmed = true → s.blk.txState = .transmit) ∧
    (s.blk.cur ≠ none ↔ s.blk.txState = .transmit) ∧
    (s.blk.retryCnt.toNat ≤ c.maxRetries ∧ (s.blk.txState = .poll → s.blk.retryCnt = 0)) ∧
    s.blk.q.length ≤ c.queueDepth ∧
    s.blk.stage.length ≤ c.maxPayload ∧
    (s.blk.rxBuf.length ≤ c.maxPayload + 7 ∧ (s.blk.rxState = .hunt → s.blk.rxBuf = [])) ∧
    (s.blk.extEvt.bits ≠ 3#2 ∧ s.blk.rxState.bits ≠ 3#2)
end

