-- ==== Sys2Proof/Laws/Config.lean ====
section
/-! SUPPORT. The bounds that every configuration carries (00_scope.md R14), one lemma each. -/

namespace Sys2Proof

theorem Config.bounds (c : Config) :
    c.maxRetries ≤ 254 ∧ c.ackTimeout < 2 ^ 31 ∧ 1 ≤ c.maxPayload ∧ c.maxPayload ≤ 65535
      ∧ 1 ≤ c.queueDepth ∧ c.queueDepth ≤ 255
      ∧ c.typeAck ≠ c.typeNack ∧ c.typeAck ≠ c.typeDebug ∧ c.typeNack ≠ c.typeDebug ∧ c.base % 64 = 0 := by
  have h := c.valid
  simpa only [Params.wf, Bool.and_eq_true, decide_eq_true_eq, and_assoc] using h

theorem Config.maxRetries_le (c : Config) : c.maxRetries ≤ 254 := c.bounds.1
theorem Config.ackTimeout_lt (c : Config) : c.ackTimeout < 2 ^ 31 := c.bounds.2.1
theorem Config.one_le_maxPayload (c : Config) : 1 ≤ c.maxPayload := c.bounds.2.2.1
theorem Config.maxPayload_le (c : Config) : c.maxPayload ≤ 65535 := c.bounds.2.2.2.1
theorem Config.one_le_queueDepth (c : Config) : 1 ≤ c.queueDepth := c.bounds.2.2.2.2.1
theorem Config.queueDepth_le (c : Config) : c.queueDepth ≤ 255 := c.bounds.2.2.2.2.2.1
theorem Config.typeAck_ne_typeNack (c : Config) : c.typeAck ≠ c.typeNack := c.bounds.2.2.2.2.2.2.1
theorem Config.base_mod (c : Config) : c.base % 64 = 0 := c.bounds.2.2.2.2.2.2.2.2.2

end Sys2Proof
end

