-- ==== Sys2Proof/Laws/State.lean ====
section
/-! SUPPORT. Every field after every shared update of the state, as rewriting rules: a proof cites these and never unfolds a
record update. -/

namespace Sys2Proof.Machine

/-! `setResult` -/

@[simp] theorem Block.setResult_txState (v : Word) (S : Block) : (S.setResult v).txState = S.txState := rfl
@[simp] theorem Block.setResult_extEvt (v : Word) (S : Block) : (S.setResult v).extEvt = S.extEvt := rfl
@[simp] theorem Block.setResult_retryCnt (v : Word) (S : Block) : (S.setResult v).retryCnt = S.retryCnt := rfl
@[simp] theorem Block.setResult_cur (v : Word) (S : Block) : (S.setResult v).cur = S.cur := rfl
@[simp] theorem Block.setResult_now (v : Word) (S : Block) : (S.setResult v).now = S.now := rfl
@[simp] theorem Block.setResult_tmrArmed (v : Word) (S : Block) : (S.setResult v).tmrArmed = S.tmrArmed := rfl
@[simp] theorem Block.setResult_tmrDeadline (v : Word) (S : Block) : (S.setResult v).tmrDeadline = S.tmrDeadline := rfl
@[simp] theorem Block.setResult_tmrRaised (v : Word) (S : Block) : (S.setResult v).tmrRaised = S.tmrRaised := rfl
@[simp] theorem Block.setResult_q (v : Word) (S : Block) : (S.setResult v).q = S.q := rfl
@[simp] theorem Block.setResult_stage (v : Word) (S : Block) : (S.setResult v).stage = S.stage := rfl
@[simp] theorem Block.setResult_stageOvf (v : Word) (S : Block) : (S.setResult v).stageOvf = S.stageOvf := rfl
@[simp] theorem Block.setResult_crcAcc (v : Word) (S : Block) : (S.setResult v).crcAcc = S.crcAcc := rfl
@[simp] theorem Block.setResult_rxState (v : Word) (S : Block) : (S.setResult v).rxState = S.rxState := rfl
@[simp] theorem Block.setResult_rxBuf (v : Word) (S : Block) : (S.setResult v).rxBuf = S.rxBuf := rfl
@[simp] theorem Block.setResult_result (v : Word) (S : Block) : (S.setResult v).result = v := rfl
@[simp] theorem Block.setResult_err (v : Word) (S : Block) : (S.setResult v).err = S.err := rfl

/-! `raise` -/

@[simp] theorem Block.raise_txState (e : Err) (S : Block) : (S.raise e).txState = S.txState := rfl
@[simp] theorem Block.raise_extEvt (e : Err) (S : Block) : (S.raise e).extEvt = S.extEvt := rfl
@[simp] theorem Block.raise_retryCnt (e : Err) (S : Block) : (S.raise e).retryCnt = S.retryCnt := rfl
@[simp] theorem Block.raise_cur (e : Err) (S : Block) : (S.raise e).cur = S.cur := rfl
@[simp] theorem Block.raise_now (e : Err) (S : Block) : (S.raise e).now = S.now := rfl
@[simp] theorem Block.raise_tmrArmed (e : Err) (S : Block) : (S.raise e).tmrArmed = S.tmrArmed := rfl
@[simp] theorem Block.raise_tmrDeadline (e : Err) (S : Block) : (S.raise e).tmrDeadline = S.tmrDeadline := rfl
@[simp] theorem Block.raise_tmrRaised (e : Err) (S : Block) : (S.raise e).tmrRaised = S.tmrRaised := rfl
@[simp] theorem Block.raise_q (e : Err) (S : Block) : (S.raise e).q = S.q := rfl
@[simp] theorem Block.raise_stage (e : Err) (S : Block) : (S.raise e).stage = S.stage := rfl
@[simp] theorem Block.raise_stageOvf (e : Err) (S : Block) : (S.raise e).stageOvf = S.stageOvf := rfl
@[simp] theorem Block.raise_crcAcc (e : Err) (S : Block) : (S.raise e).crcAcc = S.crcAcc := rfl
@[simp] theorem Block.raise_rxState (e : Err) (S : Block) : (S.raise e).rxState = S.rxState := rfl
@[simp] theorem Block.raise_rxBuf (e : Err) (S : Block) : (S.raise e).rxBuf = S.rxBuf := rfl
@[simp] theorem Block.raise_result (e : Err) (S : Block) : (S.raise e).result = S.result := rfl
@[simp] theorem Block.raise_err (e : Err) (S : Block) : (S.raise e).err = S.err ||| e.flag := rfl

/-! `tmrStart` -/

@[simp] theorem Block.tmrStart_txState (d : Nat) (S : Block) : (S.tmrStart d).txState = S.txState := rfl
@[simp] theorem Block.tmrStart_extEvt (d : Nat) (S : Block) : (S.tmrStart d).extEvt = S.extEvt := rfl
@[simp] theorem Block.tmrStart_retryCnt (d : Nat) (S : Block) : (S.tmrStart d).retryCnt = S.retryCnt := rfl
@[simp] theorem Block.tmrStart_cur (d : Nat) (S : Block) : (S.tmrStart d).cur = S.cur := rfl
@[simp] theorem Block.tmrStart_now (d : Nat) (S : Block) : (S.tmrStart d).now = S.now := rfl
@[simp] theorem Block.tmrStart_tmrArmed (d : Nat) (S : Block) : (S.tmrStart d).tmrArmed = true := rfl
@[simp] theorem Block.tmrStart_tmrDeadline (d : Nat) (S : Block) : (S.tmrStart d).tmrDeadline = S.now + BitVec.ofNat 32 d := rfl
@[simp] theorem Block.tmrStart_tmrRaised (d : Nat) (S : Block) : (S.tmrStart d).tmrRaised = false := rfl
@[simp] theorem Block.tmrStart_q (d : Nat) (S : Block) : (S.tmrStart d).q = S.q := rfl
@[simp] theorem Block.tmrStart_stage (d : Nat) (S : Block) : (S.tmrStart d).stage = S.stage := rfl
@[simp] theorem Block.tmrStart_stageOvf (d : Nat) (S : Block) : (S.tmrStart d).stageOvf = S.stageOvf := rfl
@[simp] theorem Block.tmrStart_crcAcc (d : Nat) (S : Block) : (S.tmrStart d).crcAcc = S.crcAcc := rfl
@[simp] theorem Block.tmrStart_rxState (d : Nat) (S : Block) : (S.tmrStart d).rxState = S.rxState := rfl
@[simp] theorem Block.tmrStart_rxBuf (d : Nat) (S : Block) : (S.tmrStart d).rxBuf = S.rxBuf := rfl
@[simp] theorem Block.tmrStart_result (d : Nat) (S : Block) : (S.tmrStart d).result = S.result := rfl
@[simp] theorem Block.tmrStart_err (d : Nat) (S : Block) : (S.tmrStart d).err = S.err := rfl

/-! `tmrStop` -/

@[simp] theorem Block.tmrStop_txState (S : Block) : (S.tmrStop).txState = S.txState := rfl
@[simp] theorem Block.tmrStop_extEvt (S : Block) : (S.tmrStop).extEvt = S.extEvt := rfl
@[simp] theorem Block.tmrStop_retryCnt (S : Block) : (S.tmrStop).retryCnt = S.retryCnt := rfl
@[simp] theorem Block.tmrStop_cur (S : Block) : (S.tmrStop).cur = S.cur := rfl
@[simp] theorem Block.tmrStop_now (S : Block) : (S.tmrStop).now = S.now := rfl
@[simp] theorem Block.tmrStop_tmrArmed (S : Block) : (S.tmrStop).tmrArmed = false := rfl
@[simp] theorem Block.tmrStop_tmrDeadline (S : Block) : (S.tmrStop).tmrDeadline = S.tmrDeadline := rfl
@[simp] theorem Block.tmrStop_tmrRaised (S : Block) : (S.tmrStop).tmrRaised = S.tmrRaised := rfl
@[simp] theorem Block.tmrStop_q (S : Block) : (S.tmrStop).q = S.q := rfl
@[simp] theorem Block.tmrStop_stage (S : Block) : (S.tmrStop).stage = S.stage := rfl
@[simp] theorem Block.tmrStop_stageOvf (S : Block) : (S.tmrStop).stageOvf = S.stageOvf := rfl
@[simp] theorem Block.tmrStop_crcAcc (S : Block) : (S.tmrStop).crcAcc = S.crcAcc := rfl
@[simp] theorem Block.tmrStop_rxState (S : Block) : (S.tmrStop).rxState = S.rxState := rfl
@[simp] theorem Block.tmrStop_rxBuf (S : Block) : (S.tmrStop).rxBuf = S.rxBuf := rfl
@[simp] theorem Block.tmrStop_result (S : Block) : (S.tmrStop).result = S.result := rfl
@[simp] theorem Block.tmrStop_err (S : Block) : (S.tmrStop).err = S.err := rfl

/-! `resolve` -/

@[simp] theorem Block.resolve_txState (S : Block) : (S.resolve).txState = .poll := rfl
@[simp] theorem Block.resolve_extEvt (S : Block) : (S.resolve).extEvt = S.extEvt := rfl
@[simp] theorem Block.resolve_retryCnt (S : Block) : (S.resolve).retryCnt = 0 := rfl
@[simp] theorem Block.resolve_cur (S : Block) : (S.resolve).cur = none := rfl
@[simp] theorem Block.resolve_now (S : Block) : (S.resolve).now = S.now := rfl
@[simp] theorem Block.resolve_tmrArmed (S : Block) : (S.resolve).tmrArmed = false := rfl
@[simp] theorem Block.resolve_tmrDeadline (S : Block) : (S.resolve).tmrDeadline = S.tmrDeadline := rfl
@[simp] theorem Block.resolve_tmrRaised (S : Block) : (S.resolve).tmrRaised = S.tmrRaised := rfl
@[simp] theorem Block.resolve_q (S : Block) : (S.resolve).q = S.q := rfl
@[simp] theorem Block.resolve_stage (S : Block) : (S.resolve).stage = S.stage := rfl
@[simp] theorem Block.resolve_stageOvf (S : Block) : (S.resolve).stageOvf = S.stageOvf := rfl
@[simp] theorem Block.resolve_crcAcc (S : Block) : (S.resolve).crcAcc = S.crcAcc := rfl
@[simp] theorem Block.resolve_rxState (S : Block) : (S.resolve).rxState = S.rxState := rfl
@[simp] theorem Block.resolve_rxBuf (S : Block) : (S.resolve).rxBuf = S.rxBuf := rfl
@[simp] theorem Block.resolve_result (S : Block) : (S.resolve).result = S.result := rfl
@[simp] theorem Block.resolve_err (S : Block) : (S.resolve).err = S.err := rfl

/-! `postExt`: the block it leaves -/

@[simp] theorem Block.postExt_txState (ev : ExtEvent) (S : Block) : (S.postExt ev).2.txState = S.txState := by
  simp only [Block.postExt]; split <;> rfl
@[simp] theorem Block.postExt_extEvt (ev : ExtEvent) (S : Block) : (S.postExt ev).2.extEvt = ev := rfl
@[simp] theorem Block.postExt_retryCnt (ev : ExtEvent) (S : Block) : (S.postExt ev).2.retryCnt = S.retryCnt := by
  simp only [Block.postExt]; split <;> rfl
@[simp] theorem Block.postExt_cur (ev : ExtEvent) (S : Block) : (S.postExt ev).2.cur = S.cur := by
  simp only [Block.postExt]; split <;> rfl
@[simp] theorem Block.postExt_now (ev : ExtEvent) (S : Block) : (S.postExt ev).2.now = S.now := by
  simp only [Block.postExt]; split <;> rfl
@[simp] theorem Block.postExt_tmrArmed (ev : ExtEvent) (S : Block) : (S.postExt ev).2.tmrArmed = S.tmrArmed := by
  simp only [Block.postExt]; split <;> rfl
@[simp] theorem Block.postExt_tmrDeadline (ev : ExtEvent) (S : Block) : (S.postExt ev).2.tmrDeadline = S.tmrDeadline := by
  simp only [Block.postExt]; split <;> rfl
@[simp] theorem Block.postExt_tmrRaised (ev : ExtEvent) (S : Block) : (S.postExt ev).2.tmrRaised = S.tmrRaised := by
  simp only [Block.postExt]; split <;> rfl
@[simp] theorem Block.postExt_q (ev : ExtEvent) (S : Block) : (S.postExt ev).2.q = S.q := by
  simp only [Block.postExt]; split <;> rfl
@[simp] theorem Block.postExt_stage (ev : ExtEvent) (S : Block) : (S.postExt ev).2.stage = S.stage := by
  simp only [Block.postExt]; split <;> rfl
@[simp] theorem Block.postExt_stageOvf (ev : ExtEvent) (S : Block) : (S.postExt ev).2.stageOvf = S.stageOvf := by
  simp only [Block.postExt]; split <;> rfl
@[simp] theorem Block.postExt_crcAcc (ev : ExtEvent) (S : Block) : (S.postExt ev).2.crcAcc = S.crcAcc := by
  simp only [Block.postExt]; split <;> rfl
@[simp] theorem Block.postExt_rxState (ev : ExtEvent) (S : Block) : (S.postExt ev).2.rxState = S.rxState := by
  simp only [Block.postExt]; split <;> rfl
@[simp] theorem Block.postExt_rxBuf (ev : ExtEvent) (S : Block) : (S.postExt ev).2.rxBuf = S.rxBuf := by
  simp only [Block.postExt]; split <;> rfl
@[simp] theorem Block.postExt_result (ev : ExtEvent) (S : Block) : (S.postExt ev).2.result = S.result := by
  simp only [Block.postExt]; split <;> rfl
@[simp] theorem Block.postExt_err (ev : ExtEvent) (S : Block) :
    (S.postExt ev).2.err = if S.mailboxFull then S.err ||| Err.extEventOverrun.flag else S.err := by
  simp only [Block.postExt]; split <;> rfl
@[simp] theorem Block.postExt_overrun (ev : ExtEvent) (S : Block) : (S.postExt ev).1 = S.mailboxFull := rfl

/-! `enqueue`: what it never writes -/

@[simp] theorem Block.enqueue_txState (c : Config) (t : Byte) (ack : Bool) (S : Block) :
    (Block.enqueue c t ack S).txState = S.txState := by
  unfold Block.enqueue; split <;> [rfl; split <;> rfl]
@[simp] theorem Block.enqueue_extEvt (c : Config) (t : Byte) (ack : Bool) (S : Block) :
    (Block.enqueue c t ack S).extEvt = S.extEvt := by
  unfold Block.enqueue; split <;> [rfl; split <;> rfl]
@[simp] theorem Block.enqueue_retryCnt (c : Config) (t : Byte) (ack : Bool) (S : Block) :
    (Block.enqueue c t ack S).retryCnt = S.retryCnt := by
  unfold Block.enqueue; split <;> [rfl; split <;> rfl]
@[simp] theorem Block.enqueue_cur (c : Config) (t : Byte) (ack : Bool) (S : Block) :
    (Block.enqueue c t ack S).cur = S.cur := by
  unfold Block.enqueue; split <;> [rfl; split <;> rfl]
@[simp] theorem Block.enqueue_now (c : Config) (t : Byte) (ack : Bool) (S : Block) :
    (Block.enqueue c t ack S).now = S.now := by
  unfold Block.enqueue; split <;> [rfl; split <;> rfl]
@[simp] theorem Block.enqueue_tmrArmed (c : Config) (t : Byte) (ack : Bool) (S : Block) :
    (Block.enqueue c t ack S).tmrArmed = S.tmrArmed := by
  unfold Block.enqueue; split <;> [rfl; split <;> rfl]
@[simp] theorem Block.enqueue_tmrDeadline (c : Config) (t : Byte) (ack : Bool) (S : Block) :
    (Block.enqueue c t ack S).tmrDeadline = S.tmrDeadline := by
  unfold Block.enqueue; split <;> [rfl; split <;> rfl]
@[simp] theorem Block.enqueue_tmrRaised (c : Config) (t : Byte) (ack : Bool) (S : Block) :
    (Block.enqueue c t ack S).tmrRaised = S.tmrRaised := by
  unfold Block.enqueue; split <;> [rfl; split <;> rfl]
@[simp] theorem Block.enqueue_stage (c : Config) (t : Byte) (ack : Bool) (S : Block) :
    (Block.enqueue c t ack S).stage = S.stage := by
  unfold Block.enqueue; split <;> [rfl; split <;> rfl]
@[simp] theorem Block.enqueue_stageOvf (c : Config) (t : Byte) (ack : Bool) (S : Block) :
    (Block.enqueue c t ack S).stageOvf = S.stageOvf := by
  unfold Block.enqueue; split <;> [rfl; split <;> rfl]
@[simp] theorem Block.enqueue_crcAcc (c : Config) (t : Byte) (ack : Bool) (S : Block) :
    (Block.enqueue c t ack S).crcAcc = S.crcAcc := by
  unfold Block.enqueue; split <;> [rfl; split <;> rfl]
@[simp] theorem Block.enqueue_rxState (c : Config) (t : Byte) (ack : Bool) (S : Block) :
    (Block.enqueue c t ack S).rxState = S.rxState := by
  unfold Block.enqueue; split <;> [rfl; split <;> rfl]
@[simp] theorem Block.enqueue_rxBuf (c : Config) (t : Byte) (ack : Bool) (S : Block) :
    (Block.enqueue c t ack S).rxBuf = S.rxBuf := by
  unfold Block.enqueue; split <;> [rfl; split <;> rfl]

/-! The system's state around `S` -/

@[simp] theorem State.onBlock_cfg (f : Block → Block) (s : State) : (s.onBlock f).cfg = s.cfg := rfl
@[simp] theorem State.onBlock_blk (f : Block → Block) (s : State) : (s.onBlock f).blk = f s.blk := rfl
@[simp] theorem State.onBlock_txd (f : Block → Block) (s : State) : (s.onBlock f).txd = s.txd := rfl
@[simp] theorem State.onBlock_report (f : Block → Block) (s : State) : (s.onBlock f).report = s.report := rfl
@[simp] theorem State.onBlock_dispatch (f : Block → Block) (s : State) : (s.onBlock f).dispatch = s.dispatch := rfl
@[simp] theorem State.onBlock_bus (f : Block → Block) (s : State) : (s.onBlock f).bus = s.bus := rfl
@[simp] theorem State.onBlock_reads (f : Block → Block) (s : State) : (s.onBlock f).reads = s.reads := rfl
@[simp] theorem State.commit_cfg (e : Block × Out) (s : State) : (s.commit e).cfg = s.cfg := rfl
@[simp] theorem State.commit_blk (e : Block × Out) (s : State) : (s.commit e).blk = e.1 := rfl
@[simp] theorem State.commit_txd (e : Block × Out) (s : State) : (s.commit e).txd = s.txd ++ e.2.txd := rfl
@[simp] theorem State.commit_report (e : Block × Out) (s : State) : (s.commit e).report = s.report ++ e.2.report := rfl
@[simp] theorem State.commit_dispatch (e : Block × Out) (s : State) : (s.commit e).dispatch = s.dispatch ++ e.2.dispatch := rfl
@[simp] theorem State.commit_bus (e : Block × Out) (s : State) : (s.commit e).bus = s.bus := rfl
@[simp] theorem State.commit_reads (e : Block × Out) (s : State) : (s.commit e).reads = s.reads := rfl
@[simp] theorem State.powerOn_cfg (c : Config) : (State.powerOn c).cfg = c := rfl
@[simp] theorem State.powerOn_blk (c : Config) : (State.powerOn c).blk = Block.reset c := rfl
@[simp] theorem State.powerOn_txd (c : Config) : (State.powerOn c).txd = [] := rfl
@[simp] theorem State.powerOn_report (c : Config) : (State.powerOn c).report = [] := rfl
@[simp] theorem State.powerOn_dispatch (c : Config) : (State.powerOn c).dispatch = [] := rfl
@[simp] theorem State.powerOn_bus (c : Config) : (State.powerOn c).bus = [] := rfl
@[simp] theorem State.powerOn_reads (c : Config) : (State.powerOn c).reads = [] := rfl

@[simp] theorem Out.empty_txd : Out.empty.txd = [] := rfl
@[simp] theorem Out.empty_report : Out.empty.report = [] := rfl
@[simp] theorem Out.empty_dispatch : Out.empty.dispatch = [] := rfl

/-- A command that changes `S` alone is a command that appends nothing. -/
theorem State.onBlock_eq_commit (f : Block → Block) (s : State) : s.onBlock f = s.commit (f s.blk, Out.empty) := by
  simp [State.onBlock, State.commit]

end Sys2Proof.Machine
end

