-- ==== Sys2Proof/Laws/Ops.lean ====
section
/-! SUPPORT. What each shared operation can do, said once (one inversion lemma each), for proofs to cite instead of unfolding. -/

namespace Sys2Proof.Machine

/-- Which bits of ERR a raise leaves set (R174). -/
theorem Block.raise_err_getLsbD (e : Err) (S : Block) (i : Nat) (h : i < 8) :
    (S.raise e).err.getLsbD i = (S.err.getLsbD i || decide (i = e.bit)) := by
  simp only [Block.raise_err, BitVec.getLsbD_or]
  congr 1
  interval_cases i <;> cases e <;> decide

/-- `dequeue` (R112). -/
theorem Block.dequeue_cases (S : Block) :
    (S.q = [] ∧ S.dequeue = none) ∨ ∃ r rest, S.q = r :: rest ∧ S.dequeue = some (r, { S with q := rest }) := by
  unfold Block.dequeue
  cases h : S.q with
  | nil => exact .inl ⟨rfl, rfl⟩
  | cons r rest => exact .inr ⟨r, rest, rfl, rfl⟩

/-- `enqueue` (R110): rejected for the stage, rejected for the queue, or accepted. -/
theorem Block.enqueue_cases (c : Config) (t : Byte) (ack : Bool) (S : Block) :
    (S.stageOvf = true ∧ Block.enqueue c t ack S = (S.raise .stageOverflow).setResult 0x500) ∨
    (S.stageOvf = false ∧ S.q.length = c.queueDepth ∧ Block.enqueue c t ack S = (S.raise .queueFull).setResult 0x300) ∨
    (S.stageOvf = false ∧ S.q.length ≠ c.queueDepth ∧
      Block.enqueue c t ack S =
        Block.setResult 1 { S with q := S.q ++ [{ type := t, ackExpected := ack, payload := S.stage }] }) := by
  unfold Block.enqueue Block.qFull
  by_cases h1 : S.stageOvf = true
  · simp [h1]
  · by_cases h2 : S.q.length = c.queueDepth <;> simp [h1, h2]

/-- The mailbox write (R150): what it overruns. -/
theorem Block.mailboxFull_iff (S : Block) : S.mailboxFull = true ↔ S.extEvt ≠ .none := by
  simp [Block.mailboxFull]

/-- TICK (R100): it raises the timer or it only counts. -/
theorem tickOp_cases (S : Block) :
    (S.tmrArmed = true ∧ reached (S.now + 1) S.tmrDeadline = true ∧
      tickOp S = { S with now := S.now + 1, tmrRaised := true, tmrArmed := false, result := 1 }) ∨
    (¬(S.tmrArmed = true ∧ reached (S.now + 1) S.tmrDeadline = true) ∧
      tickOp S = { S with now := S.now + 1, result := 0 }) := by
  by_cases h : S.tmrArmed = true ∧ reached (S.now + 1) S.tmrDeadline = true
  · exact .inl ⟨h.1, h.2, by
      simp only [tickOp]
      rw [if_pos h]
      rfl⟩
  · exact .inr ⟨h, by
      simp only [tickOp]
      rw [if_neg h]
      rfl⟩

/-- STAGE_BYTE (R109): the byte is dropped or appended. -/
theorem stageByteOp_cases (c : Config) (b : Byte) (S : Block) :
    (S.stage.length = c.maxPayload ∧
      stageByteOp c b S = { S with stageOvf := true, err := S.err ||| Err.stageOverflow.flag, result := 0 }) ∨
    (S.stage.length ≠ c.maxPayload ∧ stageByteOp c b S = { S with stage := S.stage ++ [b], result := 1 }) := by
  by_cases h : S.stage.length = c.maxPayload
  · exact .inl ⟨h, by simp [stageByteOp, Block.stageFull, h, Block.raise, Block.setResult]⟩
  · exact .inr ⟨h, by simp [stageByteOp, Block.stageFull, h, Block.setResult]⟩

/-- RUN (R144): one of its seven outcomes. -/
theorem runOp_cases (c : Config) (S : Block) :
    (S.txState = .poll ∧ S.q = [] ∧ runOp c S = ({ S with extEvt := .none, result := 0 }, Out.empty)) ∨
    (∃ r rest, S.txState = .poll ∧ S.q = r :: rest ∧ r.ackExpected = true ∧
      runOp c S =
        ({ S with
            extEvt := .none, q := rest, retryCnt := 0, cur := some r, txState := .transmit, result := 1
            tmrDeadline := S.now + BitVec.ofNat 32 c.ackTimeout, tmrArmed := true, tmrRaised := false },
          { Out.empty with txd := wire c r.type r.payload })) ∨
    (∃ r rest, S.txState = .poll ∧ S.q = r :: rest ∧ r.ackExpected = false ∧
      runOp c S =
        ({ S with extEvt := .none, q := rest, retryCnt := 0, result := 5 },
          { Out.empty with
            txd := wire c r.type r.payload, report := [{ code := 0x02, type := r.type, count := 1 }] })) ∨
    (∃ r, S.txState = .transmit ∧ (S.cur = some r ∨ S.cur = none) ∧ S.extEvt = .ack ∧
      runOp c S =
        ({ S with
            extEvt := .none, retryCnt := 0, tmrArmed := false, cur := none, txState := .poll, result := 2 },
          { Out.empty with report := [{ code := 0x01, type := r.type, count := S.retryCnt + 1 }] })) ∨
    (∃ r, S.txState = .transmit ∧ (S.cur = some r ∨ S.cur = none) ∧ S.extEvt ≠ .ack ∧
      (S.extEvt = .nack ∨ S.tmrRaised = true) ∧ S.retryCnt.toNat + 1 ≤ c.maxRetries ∧
      runOp c S =
        ({ S with
            extEvt := .none, retryCnt := BitVec.ofNat 8 (S.retryCnt.toNat + 1), result := 3
            tmrDeadline := S.now + BitVec.ofNat 32 c.ackTimeout, tmrArmed := true, tmrRaised := false },
          { Out.empty with txd := wire c r.type r.payload })) ∨
    (∃ r, S.txState = .transmit ∧ (S.cur = some r ∨ S.cur = none) ∧ S.extEvt ≠ .ack ∧
      (S.extEvt = .nack ∨ S.tmrRaised = true) ∧ c.maxRetries < S.retryCnt.toNat + 1 ∧
      runOp c S =
        ({ S with
            extEvt := .none, retryCnt := 0, tmrArmed := false, cur := none, txState := .poll, result := 4
            err := S.err ||| Err.retryBudgetExhausted.flag },
          { Out.empty with
            report := [{ code := 0x03, type := r.type, count := BitVec.ofNat 8 (c.maxRetries + 1) }] })) ∨
    (S.txState = .transmit ∧ S.extEvt = .none ∧ S.tmrRaised = false ∧
      runOp c S = ({ S with extEvt := .none, result := 0 }, Out.empty)) := by
  have hcur : ∀ S : Block, S.cur = some S.currentRequest ∨ S.cur = none := by
    intro S
    unfold Block.currentRequest
    cases h : S.cur with
    | none => exact .inr rfl
    | some r => exact .inl rfl
  cases hs : S.txState with
  | poll =>
    cases hq : S.q with
    | nil =>
      refine .inl ⟨rfl, rfl, ?_⟩
      simp [runOp, hs, runPoll, Block.dequeue, hq, Block.setResult]
    | cons r rest =>
      cases ha : r.ackExpected with
      | true =>
        refine .inr (.inl ⟨r, rest, rfl, rfl, ha, ?_⟩)
        simp [runOp, hs, runPoll, Block.dequeue, hq, ha, Block.setResult, Block.tmrStart]
      | false =>
        refine .inr (.inr (.inl ⟨r, rest, rfl, rfl, ha, ?_⟩))
        simp [runOp, hs, runPoll, Block.dequeue, hq, ha, Block.setResult]
  | transmit =>
    let S0 : Block := { S with extEvt := .none, txState := .transmit }
    have hc : S.cur = some S0.currentRequest ∨ S.cur = none := hcur S0
    by_cases hA : S.extEvt = .ack
    · refine .inr (.inr (.inr (.inl ⟨S0.currentRequest, rfl, hc, hA, ?_⟩)))
      simp [runOp, hs, runTransmit, hA, Block.setResult, Block.resolve, Block.tmrStop, S0]
    · by_cases hN : S.extEvt = .nack ∨ S.tmrRaised = true
      · by_cases hk : S.retryCnt.toNat + 1 ≤ c.maxRetries
        · refine .inr (.inr (.inr (.inr (.inl ⟨S0.currentRequest, rfl, hc, hA, hN, hk, ?_⟩))))
          simp only [runOp, hs, runTransmit, if_neg hA, if_pos hN, if_pos hk]
          rfl
        · refine .inr (.inr (.inr (.inr (.inr (.inl
            ⟨S0.currentRequest, rfl, hc, hA, hN, by omega, ?_⟩)))))
          simp only [runOp, hs, runTransmit, if_neg hA, if_pos hN, if_neg hk]
          rfl
      · have h0 : S.extEvt = .none := by
          cases h : S.extEvt with
          | none => rfl
          | ack => exact absurd h hA
          | nack => exact absurd (.inl h) hN
        refine .inr (.inr (.inr (.inr (.inr (.inr ⟨rfl, h0, ?_, ?_⟩)))))
        · exact Bool.eq_false_iff.mpr fun h => hN (.inr h)
        · simp only [runOp, hs, runTransmit, if_neg hA, if_neg hN]
          rfl

/-- RX_BYTE (R159 to R163, R167): one of its eight outcomes; a closing flag is `endOfFrame`. -/
theorem rxByteOp_cases (c : Config) (b : Byte) (S : Block) :
    (S.rxState = .hunt ∧ b ≠ FLAG ∧ rxByteOp c b S = ({ S with result := 0 }, Out.empty)) ∨
    (S.rxState = .hunt ∧ b = FLAG ∧
      rxByteOp c b S = ({ S with rxBuf := [], rxState := .data, result := 0 }, Out.empty)) ∨
    (S.rxState = .data ∧ b = FLAG ∧ S.rxBuf = [] ∧ rxByteOp c b S = ({ S with result := 0 }, Out.empty)) ∨
    (S.rxState = .data ∧ b = FLAG ∧ S.rxBuf ≠ [] ∧
      rxByteOp c b S =
        ({ (endOfFrame c S.rxBuf S).blk with rxBuf := [], result := (endOfFrame c S.rxBuf S).code },
          (endOfFrame c S.rxBuf S).out)) ∨
    (S.rxState = .data ∧ b ≠ FLAG ∧ b = ESC ∧
      rxByteOp c b S = ({ S with rxState := .esc, result := 0 }, Out.empty)) ∨
    (S.rxState = .esc ∧ b = FLAG ∧
      rxByteOp c b S =
        ({ S with rxBuf := [], rxState := .data, err := S.err ||| Err.frameAborted.flag, result := 6 },
          { Out.empty with report := [{ code := 0x13, type := S.firstByte, count := 0 }] })) ∨
    (∃ x, (S.rxState = .data ∧ b ≠ FLAG ∧ b ≠ ESC ∧ x = b ∨ S.rxState = .esc ∧ b ≠ FLAG ∧ x = b ^^^ XORV) ∧
      S.rxBuf.length ≠ c.maxPayload + 7 ∧
      rxByteOp c b S = ({ S with rxBuf := S.rxBuf ++ [x], rxState := .data, result := 0 }, Out.empty)) ∨
    ((S.rxState = .data ∧ b ≠ FLAG ∧ b ≠ ESC ∨ S.rxState = .esc ∧ b ≠ FLAG) ∧
      S.rxBuf.length = c.maxPayload + 7 ∧
      rxByteOp c b S =
        ({ S with rxBuf := [], rxState := .hunt, err := S.err ||| Err.lengthMismatch.flag, result := 5 },
          (rxError c .length S).2)) := by
  cases hs : S.rxState with
  | hunt =>
    by_cases hb : b = FLAG
    · refine .inr (.inl ⟨rfl, hb, ?_⟩)
      simp [rxByteOp, hs, rxHunt, hb, consumed, Block.setResult]
    · refine .inl ⟨rfl, hb, ?_⟩
      simp [rxByteOp, hs, rxHunt, hb, consumed, Block.setResult]
  | data =>
    by_cases hb : b = FLAG
    · by_cases he : S.rxBuf = []
      · refine .inr (.inr (.inl ⟨rfl, hb, he, ?_⟩))
        simp [rxByteOp, hs, rxData, hb, he, consumed, Block.setResult]
      · refine .inr (.inr (.inr (.inl ⟨rfl, hb, he, ?_⟩)))
        simp [rxByteOp, hs, rxData, hb, he, Block.setResult]
    · by_cases hE : b = ESC
      · refine .inr (.inr (.inr (.inr (.inl ⟨rfl, hb, hE, ?_⟩))))
        simp only [rxByteOp, hs, rxData, if_neg hb, if_pos hE]
        rfl
      · by_cases hf : S.rxBuf.length = c.maxPayload + 7
        · refine .inr (.inr (.inr (.inr (.inr (.inr (.inr ⟨.inl ⟨rfl, hb, hE⟩, hf, ?_⟩))))))
          simp [rxByteOp, hs, rxData, hb, hE, rxAppend, Block.rxFull, rxCapacity, hf, rxError, Block.raise,
            Block.setResult, FrameError.err]
        · refine .inr (.inr (.inr (.inr (.inr (.inr (.inl ⟨b, .inl ⟨rfl, hb, hE, rfl⟩, hf, ?_⟩))))))
          simp [rxByteOp, hs, rxData, hb, hE, rxAppend, Block.rxFull, rxCapacity, hf, consumed, Block.setResult]
  | esc =>
    by_cases hb : b = FLAG
    · refine .inr (.inr (.inr (.inr (.inr (.inl ⟨rfl, hb, ?_⟩)))))
      simp [rxByteOp, hs, rxEsc, hb, rxAbort, Block.raise, Block.setResult]
    · by_cases hf : S.rxBuf.length = c.maxPayload + 7
      · refine .inr (.inr (.inr (.inr (.inr (.inr (.inr ⟨.inr ⟨rfl, hb⟩, hf, ?_⟩))))))
        simp [rxByteOp, hs, rxEsc, hb, rxAppend, Block.rxFull, rxCapacity, hf, rxError, Block.raise,
          Block.setResult, FrameError.err, Block.firstByte]
      · refine .inr (.inr (.inr (.inr (.inr (.inr (.inl ⟨b ^^^ XORV, .inr ⟨rfl, hb, rfl⟩, hf, ?_⟩))))))
        simp [rxByteOp, hs, rxEsc, hb, rxAppend, Block.rxFull, rxCapacity, hf, consumed, Block.setResult]

/-- The close of a frame (R164 to R166): its five outcomes. -/
theorem endOfFrame_cases (c : Config) (f : List Byte) (S : Block) :
    (decodeFrame c f = .lengthMismatch ∧
      endOfFrame c f S = ⟨S.raise .lengthMismatch, (rxError c .length S).2, 5⟩) ∨
    (decodeFrame c f = .checksumMismatch ∧
      endOfFrame c f S = ⟨S.raise .checksumMismatch, (rxError c .checksum S).2, 4⟩) ∨
    (∃ p, decodeFrame c f = .ok c.typeAck p ∧ endOfFrame c f S = ⟨(S.postExt .ack).2, Out.empty, 2⟩) ∨
    (∃ p, decodeFrame c f = .ok c.typeNack p ∧ endOfFrame c f S = ⟨(S.postExt .nack).2, Out.empty, 3⟩) ∨
    (∃ t p, decodeFrame c f = .ok t p ∧ t ≠ c.typeAck ∧ t ≠ c.typeNack ∧
      endOfFrame c f S = ⟨S, { Out.empty with dispatch := [{ type := t, payload := p }] }, 1⟩) := by
  unfold endOfFrame
  cases h : decodeFrame c f with
  | lengthMismatch => exact .inl ⟨rfl, rfl⟩
  | checksumMismatch => exact .inr (.inl ⟨rfl, rfl⟩)
  | ok t p =>
    by_cases ha : t = c.typeAck
    · refine .inr (.inr (.inl ⟨p, by rw [ha], ?_⟩))
      simp [rxAccept, ha]
    · by_cases hn : t = c.typeNack
      · refine .inr (.inr (.inr (.inl ⟨p, by rw [hn], ?_⟩)))
        have := c.typeAck_ne_typeNack
        simp [rxAccept, hn, this.symm]
      · exact .inr (.inr (.inr (.inr ⟨t, p, rfl, ha, hn, by simp [rxAccept, ha, hn]⟩)))

/-- Every register is in the window's list. -/
theorem Reg.mem_all (r : Reg) : r ∈ Reg.all := by cases r <;> decide

/-- Two registers have two offsets. -/
theorem Reg.offset_inj {r r' : Reg} (h : r.offset = r'.offset) : r = r' := by
  revert h; cases r <;> cases r' <;> decide

/-- The 32-bit access at a register's address selects it (R53, R54). -/
theorem selectReg_offset (c : Config) (r : Reg) : selectReg c 4 (c.base + r.offset) = .ok r := by
  have hlt : r.offset < 64 := by cases r <;> decide
  have hf : Reg.all.find? (fun r' => c.base + r.offset == c.base + r'.offset) = some r := by
    have hc : ∀ r' : Reg, (c.base + r.offset == c.base + r'.offset) = (r.offset == r'.offset) := by
      intro r'
      rw [Bool.eq_iff_iff]
      simp
    simp only [hc]
    cases r <;> rfl
  unfold selectReg
  rw [if_neg (by simp), if_neg (by omega), hf]

/-- What an access selects: a register whose address it has, or nothing (R55). -/
theorem selectReg_cases (c : Config) (size addr : Nat) :
    (∃ r, size = 4 ∧ addr = c.base + r.offset ∧ selectReg c size addr = .ok r) ∨
    ((size ≠ 4 ∨ ∀ r ∈ Reg.all, addr ≠ c.base + r.offset) ∧ ∃ e, selectReg c size addr = .error e) := by
  by_cases h4 : size = 4
  · subst h4
    by_cases h : ∃ r ∈ Reg.all, addr = c.base + r.offset
    · obtain ⟨r, -, rfl⟩ := h
      exact .inl ⟨r, rfl, rfl, selectReg_offset c r⟩
    · refine .inr ⟨.inr fun r hr he => h ⟨r, hr, he⟩, ?_⟩
      have hf : Reg.all.find? (fun r => addr == c.base + r.offset) = none := by
        rw [List.find?_eq_none]
        intro r hr he
        exact h ⟨r, hr, by simpa using he⟩
      unfold selectReg
      rw [if_neg (by simp), hf]
      split
      · exact ⟨_, rfl⟩
      · exact ⟨_, rfl⟩
  · exact .inr ⟨.inl h4, _, by unfold selectReg; rw [if_pos h4]⟩

/-- One step: nothing waits, a read is answered, a write runs a command or is ignored, or the access is refused. -/
theorem step_cases (s : State) :
    (s.bus = [] ∧ step s = .next s) ∨
    (∃ r rest, s.bus = .read 4 (s.cfg.base + r.offset) :: rest ∧
      step s = .next { s with bus := rest, reads := s.reads ++ [readReg s.cfg s.blk r] }) ∨
    (∃ w rest, s.bus = cmdWrite s.cfg w :: rest ∧ step s = runWord w { s with bus := rest }) ∨
    (∃ r w rest, r ≠ Reg.cmd ∧ s.bus = .write 4 (s.cfg.base + r.offset) w :: rest ∧
      step s = .next { s with bus := rest }) ∨
    (∃ a rest e, s.bus = a :: rest ∧ step s = .refused e) := by
  unfold step serveNext
  cases hb : s.bus with
  | nil => exact .inl ⟨rfl, rfl⟩
  | cons a rest =>
    cases a with
    | read size addr =>
      rcases selectReg_cases s.cfg size addr with ⟨r, rfl, rfl, h⟩ | ⟨-, e, h⟩
      · refine .inr (.inl ⟨r, rest, rfl, ?_⟩)
        simp [serve, busRead, h]
      · refine .inr (.inr (.inr (.inr ⟨_, rest, e, rfl, ?_⟩)))
        simp [serve, busRead, h]
    | write size addr w =>
      rcases selectReg_cases s.cfg size addr with ⟨r, rfl, rfl, h⟩ | ⟨-, e, h⟩
      · by_cases hr : r = .cmd
        · subst hr
          refine .inr (.inr (.inl ⟨w, rest, rfl, ?_⟩))
          simp [serve, busWrite, h]
        · refine .inr (.inr (.inr (.inl ⟨r, w, rest, hr, rfl, ?_⟩)))
          simp only [serve, busWrite, h]
      · refine .inr (.inr (.inr (.inr ⟨_, rest, e, rfl, ?_⟩)))
        simp [serve, busWrite, h]

end Sys2Proof.Machine
end

