-- ==== Sys2Proof/Laws/PerInstr.lean ====
section
/-! SUPPORT. The facts stated per command: the word of every command lies in its own row of 30_encoding.md R74. -/

namespace Sys2Proof.Laws.EncodedInRow

open Sys2Proof

/-- `(w AND mask) = match` for the word of `i` and the row of `i`. -/
def Statement (i : Instr) : Prop := encode i &&& i.row.mask = i.row.pat

theorem nop : Statement .nop := rfl
theorem reset : Statement .reset := rfl
theorem init : Statement .init := rfl
theorem run : Statement .run := rfl
theorem tick : Statement .tick := rfl
theorem setExtEventAck : Statement .setExtEventAck := rfl
theorem setExtEventNack : Statement .setExtEventNack := rfl
theorem stageClear : Statement .stageClear := rfl
theorem stageByte : ∀ b8, Statement (.stageByte b8) := by unfold Statement; decide
theorem enqueue (type8 : Byte) : ∀ ack1, Statement (.enqueue type8 ack1) := by
  revert type8; unfold Statement; decide
theorem sendDebug : ∀ ack1, Statement (.sendDebug ack1) := by unfold Statement; decide
theorem crcInit : Statement .crcInit := rfl
theorem crcByte : ∀ b8, Statement (.crcByte b8) := by unfold Statement; decide
theorem crcRead : Statement .crcRead := rfl
theorem rxByte : ∀ b8, Statement (.rxByte b8) := by unfold Statement; decide
theorem clrErr : ∀ mask8, Statement (.clrErr mask8) := by unfold Statement; decide

end Sys2Proof.Laws.EncodedInRow
end

