-- ==== Sys2Proof/Laws/Runs.lean ====
section
/-! SUPPORT. The laws of command sequences: how `execAll` and `trace` go over a first command and over two lists. -/

namespace Sys2Proof.Machine

@[simp] theorem execAll_nil (s : State) : execAll [] s = .next s := rfl

/-- A sequence goes on from its first command's next state. -/
theorem execAll_cons {i : Instr} {s t : State} (h : exec i s = .next t) (rest : List Instr) :
    execAll (i :: rest) s = execAll rest t := by
  simp only [execAll, h]

/-- Two sequences one after the other. -/
theorem execAll_append {cs : List Instr} {s t : State} (h : execAll cs s = .next t) (ds : List Instr) :
    execAll (cs ++ ds) s = execAll ds t := by
  induction cs generalizing s with
  | nil =>
    cases h
    rfl
  | cons i rest ih =>
    simp only [List.cons_append, execAll] at h ⊢
    cases hi : exec i s with
    | next u =>
      rw [hi] at h
      exact ih h
    | fault r => exact r.casesOn
    | refused r =>
      rw [hi] at h
      cases h

@[simp] theorem trace_nil {α : Type} (see : Instr → State → State → List α) (s : State) : trace see [] s = [] := rfl

/-- What is seen of the first command, then of the rest. -/
theorem trace_cons {α : Type} (see : Instr → State → State → List α) {i : Instr} {s t : State} (h : exec i s = .next t)
    (rest : List Instr) : trace see (i :: rest) s = see i s t ++ trace see rest t := by
  simp only [trace, h]

/-- What is seen of two sequences one after the other. -/
theorem trace_append {α : Type} (see : Instr → State → State → List α) {cs : List Instr} {s t : State}
    (h : execAll cs s = .next t) (ds : List Instr) : trace see (cs ++ ds) s = trace see cs s ++ trace see ds t := by
  induction cs generalizing s with
  | nil =>
    cases h
    rfl
  | cons i rest ih =>
    simp only [List.cons_append, execAll, trace] at h ⊢
    cases hi : exec i s with
    | next u =>
      rw [hi] at h
      simp only [ih h, List.append_assoc]
    | fault r => exact r.casesOn
    | refused r =>
      rw [hi] at h
      cases h

end Sys2Proof.Machine
end

