-- ==== Sys2Proof/Tests/Slice0.lean ====
section
/-! SUPPORT. The model's own tests. Expected values come from spec/95_test_vectors.md (its vector ids stand in the docstrings) or
from the rule named; the witness theorems show, for each obligation with hypotheses, concrete data that meets them. -/

namespace Sys2Proof.Tests

open Sys2Proof.Machine

/-! ### Helpers -/

/-- The next state an outcome answers. -/
def nextOf : Host.Outcome State Fault Refusal → Option State
  | .next t => some t
  | _ => none

/-- The refusal an outcome answers. -/
def refusalOf : Host.Outcome State Fault Refusal → Option Refusal
  | .refused e => some e
  | _ => none

/-- One observation of the next state. -/
def seen {α : Type} (f : State → α) (o : Host.Outcome State Fault Refusal) : Option α := (nextOf o).map f

/-- A small configuration: two payload bytes, two queue entries, one retry, a timeout of one tick, policy NACK. -/
def cfgT : Config where
  toParams := { Params.standard 64 with maxPayload := 2, queueDepth := 2, ackTimeout := 1, maxRetries := 1, rxErrPolicy := .nack }
  valid := by decide

/-- Power-on of that configuration. -/
def on : State := State.powerOn cfgT

/-- Power-on with another `S`. -/
def withBlk (f : Block → Block) : State := { on with blk := f on.blk }

/-- A request that expects an acknowledgement. -/
def reqA : Request := { type := 0x10, ackExpected := true, payload := [] }

/-- A request that expects none. -/
def reqB : Request := { type := 0x11, ackExpected := false, payload := [0x7E] }

/-- POLL with a request at the head that expects an acknowledgement. -/
def pollA : State := withBlk fun S => { S with q := [reqA, reqB] }

/-- POLL with a request at the head that expects none. -/
def pollB : State := withBlk fun S => { S with q := [reqB] }

/-- TRANSMIT right after the first copy was sent at tick 0. -/
def sent : State := withBlk fun S =>
  { S with txState := .transmit, cur := some reqA, tmrArmed := true, tmrDeadline := 1 }

/-- TRANSMIT with an event in the mailbox. -/
def sentWith (e : ExtEvent) (k : Byte) : State :=
  { sent with blk := { sent.blk with extEvt := e, retryCnt := k } }

/-- TRANSMIT with the timer raised. -/
def sentRaised (k : Byte) : State :=
  { sent with blk := { sent.blk with tmrArmed := false, tmrRaised := true, retryCnt := k } }

/-- The receive FSM in a state with a buffer. -/
def rx (st : RxState) (buf : List Byte) : State := withBlk fun S => { S with rxState := st, rxBuf := buf }

/-- The inner frame of CODEC-1: type 0x10, no payload. -/
def frame10 : List Byte := [0x10, 0x00, 0x00, 0x62, 0x7A, 0x67, 0xE3]

/-- The inner frame of CODEC-3: an ACK frame. -/
def frameAck : List Byte := [0x06, 0x00, 0x00, 0xA0, 0xA5, 0xCC, 0xFB]

/-- The inner frame of CODEC-4: a NACK frame. -/
def frameNack : List Byte := [0x15, 0x00, 0x00, 0x89, 0xB8, 0xAC, 0xE5]

/-- Accesses waiting at the port of `on`, whose window is at 64. -/
def waiting (as : List Access) : State := { on with bus := as }

/-! ### WellFormed: an ill-formed line for each check (R80), and an ill-formed parameter set for each bound (R14) -/

theorem test_asm_b8 : (Asm.stageByte 0x100).wellFormed = false ∧ (Asm.crcByte 0x100).wellFormed = false ∧
    (Asm.rxByte 0x100).wellFormed = false ∧ (Asm.stageByte 0xFF).wellFormed = true := by decide

theorem test_asm_type8 : (Asm.enqueue 0x100 1).wellFormed = false ∧ (Asm.enqueue 0xFF 1).wellFormed = true := by decide

/-- PORT-16. -/
theorem test_asm_ack1 : (Asm.enqueue 0x10 2).wellFormed = false ∧ (Asm.sendDebug 2).wellFormed = false := by decide

theorem test_asm_mask8 : (Asm.clrErr 0x100).wellFormed = false ∧ (Asm.clrErr 0xFF).wellFormed = true := by decide

theorem test_asm_event : (Asm.setExtEvent .other).wellFormed = false ∧ (Asm.setExtEvent .nack).wellFormed = true := by
  decide

theorem test_asm_bytes : (Asm.stage [1, 0x100]).wellFormed = false ∧ (Asm.crcBytes [0x100]).wellFormed = false ∧
    (Asm.crc [0x100]).wellFormed = false ∧ (Asm.rxBytes [0x100]).wellFormed = false := by decide

theorem test_asm_send : (Asm.send 0x100 1 []).wellFormed = false ∧ (Asm.send 1 2 []).wellFormed = false ∧
    (Asm.send 1 1 [0x100]).wellFormed = false ∧ (Asm.send 1 1 [0xFF]).wellFormed = true := by decide

theorem test_asm_debug : (Asm.debug 2 []).wellFormed = false ∧ (Asm.debug 1 [0x100]).wellFormed = false := by decide

theorem test_asm_rxFrame : (Asm.rxFrame 0x100 []).wellFormed = false ∧ (Asm.rxFrame 1 [0x100]).wellFormed = false := by
  decide

theorem test_params_bounds :
    ({ Params.standard 0 with maxRetries := 255 } : Params).wf = false ∧
    ({ Params.standard 0 with ackTimeout := 2 ^ 31 } : Params).wf = false ∧
    ({ Params.standard 0 with maxPayload := 0 } : Params).wf = false ∧
    ({ Params.standard 0 with maxPayload := 65536 } : Params).wf = false ∧
    ({ Params.standard 0 with queueDepth := 0 } : Params).wf = false ∧
    ({ Params.standard 0 with queueDepth := 256 } : Params).wf = false ∧
    ({ Params.standard 0 with typeNack := 0x06 } : Params).wf = false ∧
    ({ Params.standard 0 with typeDebug := 0x06 } : Params).wf = false ∧
    ({ Params.standard 0 with typeDebug := 0x15 } : Params).wf = false ∧
    (Params.standard 32).wf = false ∧ (Params.standard 64).wf = true := by decide

theorem test_build_refuses : Config.build (Params.standard 4) = none := by decide

/-! ### Decoding: for every constructor a word written out from the bit pattern of R74 -/

theorem test_decode_nop : (decode 0b00000000_00000000_00000000_00000000).toOption = some .nop := by decide
theorem test_decode_reset : (decode 0b00000001_00000000_00000000_00000000).toOption = some .reset := by decide
theorem test_decode_init : (decode 0b00000010_00000000_00000000_00000000).toOption = some .init := by decide
theorem test_decode_run : (decode 0b00000011_00000000_00000000_00000000).toOption = some .run := by decide
theorem test_decode_tick : (decode 0b00000100_00000000_00000000_00000000).toOption = some .tick := by decide
theorem test_decode_setExtEventAck : (decode 0b00000101_00000001_00000000_00000000).toOption = some .setExtEventAck := by
  decide
theorem test_decode_setExtEventNack : (decode 0b00000101_00000010_00000000_00000000).toOption = some .setExtEventNack := by
  decide
theorem test_decode_stageClear : (decode 0b00000110_00000000_00000000_00000000).toOption = some .stageClear := by decide
theorem test_decode_stageByte : (decode 0b00000111_10100001_00000000_00000000).toOption = some (.stageByte 0xA1) := by
  decide
theorem test_decode_enqueue : (decode 0b00001000_10000010_00000000_00000001).toOption = some (.enqueue 0x82 true) := by
  decide
theorem test_decode_sendDebug : (decode 0b00001001_00000000_00000000_00000001).toOption = some (.sendDebug true) := by
  decide
theorem test_decode_crcInit : (decode 0b00001010_00000000_00000000_00000000).toOption = some .crcInit := by decide
theorem test_decode_crcByte : (decode 0b00001011_00110001_00000000_00000000).toOption = some (.crcByte 0x31) := by decide
theorem test_decode_crcRead : (decode 0b00001100_00000000_00000000_00000000).toOption = some .crcRead := by decide
theorem test_decode_rxByte : (decode 0b00001101_01111110_00000000_00000000).toOption = some (.rxByte 0x7E) := by decide
theorem test_decode_clrErr : (decode 0b00001110_00000000_00000000_10000001).toOption = some (.clrErr 0x81) := by decide

/-- The three cases of R75, with the words of PORT-3 to PORT-10. -/
theorem test_decode_illegal :
    [0x0F000000, 0x08100002, 0x05030000, 0x05000000, 0x03000001, 0x0E000100, 0x09010000, 0xFFFFFFFF].map
      (fun w : Word => (decode w).toOption) = List.replicate 8 none := by decide

/-- The table's words as spec/opcode_table.json numbers their bits. -/
theorem test_decodeTableWord :
    decodeTableWord 32 0x08100001 = some (.enqueue 0x10 true) ∧ decodeTableWord 32 0x04000000 = some .tick ∧
    decodeTableWord 32 0x0F000000 = none ∧ decodeTableWord 40 0 = none := by decide

/-- R80 and R81 on source text. -/
theorem test_assembleLine :
    (assembleLine cfgT "ENQUEUE 0x10, 1 ; commit".toList).toOption = some [0x08100001] ∧
    (assembleLine cfgT "STAGE_BYTE 'h'".toList).toOption = some [0x07680000] ∧
    (assembleLine cfgT "STAGE \"hi\"".toList).toOption = some [0x06000000, 0x07680000, 0x07690000] ∧
    (assembleLine cfgT "RX_BYTES 0x7E, 126".toList).toOption = some [0x0D7E0000, 0x0D7E0000] ∧
    (assembleLine cfgT "STAGE\"h\"".toList).toOption = some [0x06000000, 0x07680000] := by decide +kernel

/-- PORT-16, an event name other than ACK or NACK, a missing operand, and `_` in a number (notes/assumptions/11.md). -/
theorem test_assembleLine_error :
    (assembleLine cfgT "ENQUEUE 0x10, 2".toList).toOption = none ∧
    (assembleLine cfgT "SET_EXT_EVENT MAYBE".toList).toOption = none ∧
    (assembleLine cfgT "ENQUEUE 0x10".toList).toOption = none ∧
    (assembleLine cfgT "CLR_ERR 0x0_1".toList).toOption = none := by decide +kernel

/-! ### The port -/

/-- PORT-3, the illegal command placed at the port. -/
theorem test_withFetchWord_illegal :
    seen (fun t => (t.blk.err, t.blk.result, t.bus)) (step (State.reset.withFetchWord 32 0x0F000000)) =
      some (0x20, 0xFFFFFFFF, []) := by decide

/-- A legal command placed at the port of the reset state runs. -/
theorem test_withFetchWord_runs :
    seen (fun t => (t.blk.now, t.bus)) (step (State.reset.withFetchWord 32 0x04000000)) = some (1, []) := by decide

/-- PORT-14: a write to RESULT has no effect. -/
theorem test_write_read_only : nextOf (step (waiting [.write 4 68 0x12345678])) = some on := by decide

/-- R55: narrow, misaligned and outside accesses are refused. -/
theorem test_refusals :
    refusalOf (step (waiting [.read 1 64])) = some .narrowAccess ∧
    refusalOf (step (waiting [.read 4 66])) = some .misalignedAccess ∧
    refusalOf (step (waiting [.write 4 128 0])) = some .outsideWindow ∧
    refusalOf (step (waiting [.read 4 60])) = some .outsideWindow := by decide

/-- PORT-1: the register window after power-on of the default block. -/
theorem test_window_after_reset :
    Reg.all.map (readReg (Config.standard 0) State.reset.blk) =
      [0, 0, 0x00000080, 0, 0, 0xFFFFFFFF, 0, 0, 0, 0, 0, 0x00060802, 0x00000032, 0x00000040, 0x00441506, 0x52505431] := by
  decide +kernel

/-! ### One step of each instruction -/

/-- PORT-2. -/
theorem test_nop : nextOf (exec .nop (withBlk fun S => { S with result := 7 })) = some on := by decide

/-- PORT-15: RESET leaves the channels. -/
theorem test_reset : nextOf (exec .reset { pollA with txd := [1] }) = some { on with txd := [1] } := by decide

/-- TX-7: INIT in TRANSMIT drops the request without a report and keeps the deadline. -/
theorem test_init :
    nextOf (exec .init (sentWith .nack 1)) = some (withBlk fun S => { S with tmrDeadline := 1 }) := by decide

/-- TX-3's first RUN: the frame of CODEC-1 on TXD, TRANSMIT, the timer started. -/
theorem test_run_sends :
    seen (fun t => (t.txd, t.blk)) (exec .run pollA) =
      some ([0x7E, 0x10, 0x00, 0x00, 0x62, 0x7A, 0x67, 0xE3, 0x7E],
        { sent.blk with q := [reqB], result := 1 }) := by decide +kernel

/-- TX-1's last RUN: the budget is spent. -/
theorem test_run_abandons :
    seen (fun t => (t.txd, t.report, t.blk.txState, t.blk.err, t.blk.result)) (exec .run (sentWith .nack 1)) =
      some ([], [{ code := 0x03, type := 0x10, count := 2 }], .poll, 0x08, 4) := by decide +kernel

/-- TMR-5: the modular test across the wrap. -/
theorem test_tick_wraps :
    seen (fun t => (t.blk.now, t.blk.tmrRaised, t.blk.tmrArmed, t.blk.result)) (exec .tick (withBlk fun S =>
      { S with now := 0xFFFFFFFF, tmrArmed := true, tmrDeadline := 0 })) = some (0, true, false, 1) := by decide

/-- TMR-3's second TICK: not yet. -/
theorem test_tick_waits :
    seen (fun t => (t.blk.now, t.blk.tmrRaised, t.blk.tmrArmed, t.blk.result)) (exec .tick (withBlk fun S =>
      { S with now := 1, tmrArmed := true, tmrDeadline := 3 })) = some (2, false, true, 0) := by decide

/-- R151's example, its first command. -/
theorem test_setExtEventAck :
    seen (fun t => (t.blk.extEvt, t.blk.err, t.blk.result)) (exec .setExtEventAck on) = some (.ack, 0, 0) := by decide

/-- TX-6: the overrun. -/
theorem test_setExtEventNack :
    seen (fun t => (t.blk.extEvt, t.blk.err, t.blk.result)) (exec .setExtEventNack (withBlk fun S =>
      { S with extEvt := .ack })) = some (.nack, 0x40, 1) := by decide

/-- R108: ERR bit 4 stays. -/
theorem test_stageClear :
    seen (fun t => (t.blk.stage, t.blk.stageOvf, t.blk.err, t.blk.result)) (exec .stageClear (withBlk fun S =>
      { S with stage := [1, 2], stageOvf := true, err := 0x10, result := 9 })) = some ([], false, 0x10, 0) := by decide

/-- Q-6: the third byte does not fit. -/
theorem test_stageByte_full :
    seen (fun t => (t.blk.stage, t.blk.stageOvf, t.blk.err, t.blk.result)) (exec (.stageByte 3) (withBlk fun S =>
      { S with stage := [1, 2] })) = some ([1, 2], true, 0x10, 0) := by decide

theorem test_stageByte :
    seen (fun t => (t.blk.stage, t.blk.stageOvf, t.blk.err, t.blk.result)) (exec (.stageByte 2) (withBlk fun S =>
      { S with stage := [1] })) = some ([1, 2], false, 0, 1) := by decide

/-- Q-1. -/
theorem test_enqueue :
    seen (fun t => (t.blk.q, t.blk.stage, t.blk.result)) (exec (.enqueue 0x10 true) (withBlk fun S =>
      { S with stage := [1, 2] })) = some ([{ type := 0x10, ackExpected := true, payload := [1, 2] }], [1, 2], 1) := by
  decide

/-- Q-7: StageOverflow is tested before QueueFull. -/
theorem test_enqueue_priority :
    seen (fun t => (t.blk.q, t.blk.err, t.blk.result)) (exec (.enqueue 6 false) (withBlk fun S =>
      { S with stageOvf := true, q := [reqB, reqB] })) = some ([reqB, reqB], 0x10, 0x500) := by decide

/-- Q-2. -/
theorem test_sendDebug :
    seen (fun t => (t.blk.q, t.blk.result)) (exec (.sendDebug false) (withBlk fun S => { S with stage := [0x68, 0x69] })) =
      some ([{ type := 0x44, ackExpected := false, payload := [0x68, 0x69] }], 1) := by decide

/-- Q-3: the queue is full. -/
theorem test_sendDebug_full :
    seen (fun t => (t.blk.q, t.blk.err, t.blk.result)) (exec (.sendDebug true) (withBlk fun S =>
      { S with q := [reqB, reqA] })) = some ([reqB, reqA], 0x04, 0x300) := by decide

theorem test_crcInit :
    seen (fun t => (t.blk.crcAcc, t.blk.result)) (exec .crcInit (withBlk fun S => { S with crcAcc := 5, result := 3 })) =
      some (0xFFFFFFFF, 0) := by decide

/-- CRC-5. -/
theorem test_crcByte : seen (fun t => t.blk.crcAcc) (exec (.crcByte 0x31) on) = some 0x1208C43E := by decide +kernel

/-- CRC-10: the accumulator after "123456789" and its checksum. -/
theorem test_crcRead :
    seen (fun t => (t.blk.result, t.blk.crcAcc)) (exec .crcRead (withBlk fun S => { S with crcAcc := 0x9B63D02C })) =
      some (0xCBF43926, 0x9B63D02C) := by decide +kernel

/-- RX-8's closing flag: an ACK frame is posted. -/
theorem test_rxByte_ack :
    seen (fun t => (t.blk.extEvt, t.blk.rxBuf, t.blk.rxState, t.dispatch, t.blk.result))
      (exec (.rxByte 0x7E) (rx .data frameAck)) = some (.ack, [], .data, [], 2) := by decide +kernel

/-- RX-13's escape after an escape. -/
theorem test_rxByte_escape :
    seen (fun t => (t.blk.rxBuf, t.blk.rxState, t.blk.result)) (exec (.rxByte 0x7D) (rx .esc [])) =
      some ([0x5D], .data, 0) := by decide

/-- PORT-11. -/
theorem test_clrErr :
    seen (fun t => (t.blk.err, t.blk.result)) (exec (.clrErr 0x04) (withBlk fun S => { S with err := 0x0C })) =
      some (0x08, 0x0000000C) := by decide

/-- CODEC-6: stuffing in the wire bytes. -/
theorem test_wire : wire (Config.standard 0) 0x7E [0x7D] =
    [0x7E, 0x7D, 0x5E, 0x01, 0x00, 0x7D, 0x5D, 0x05, 0x6F, 0xD2, 0x85, 0x7E] := by decide +kernel

/-- CODEC-15: the length check comes before the checksum check. -/
theorem test_decodeFrame_length :
    decodeFrame (Config.standard 0) [0x10, 0x05, 0x00, 0xAA, 0x9E, 0x00, 0x95, 0x41] = .lengthMismatch := by
  decide +kernel

/-! ### Witnesses: concrete data that meets the hypotheses of each obligation, clause by clause -/

theorem witness_EncodeOfDecode : (decode 0x0E0000FF).toOption = some (.clrErr 0xFF) := by decide

/-- A word that matches a row, and one that matches none. -/
theorem witness_CommandTable :
    (Row.clrErr ∈ Row.all ∧ (0x0E000081#32) &&& Row.clrErr.mask = Row.clrErr.pat) ∧
    (∀ r ∈ Row.all, (0x0F000000#32) &&& r.mask ≠ r.pat) := by decide

theorem witness_IllegalCommands :
    decode 0x0F000000 = .error .reservedOpcode ∧
    (waiting [.write 4 64 0x0F000000]).bus = .write 4 on.cfg.base 0x0F000000 :: [] := by
  exact ⟨rfl, by decide⟩

/-- Operands just out of range, a byte list with one such byte, a payload one byte too long for a frame, and operands at both
ends of their ranges. -/
theorem witness_AssemblerWords :
    0xFF < 0x100 ∧ 1 < 2 ∧ (∃ b ∈ [1, 0x100], 0xFF < b) ∧
    ((∀ b ∈ [1, 2, 0xFF], b ≤ 0xFF) ∧ cfgT.maxPayload < [1, 2, 0xFF].length) ∧ 0xFF ≤ 0xFF ∧ 0 ≤ 0xFF ∧ 1 ≤ 1 := by decide

/-- Byte lists in range, empty and not, and operands at the ends of their ranges. -/
theorem witness_PseudoInstructionExpansions :
    (∀ b ∈ ([] : List Nat), b ≤ 0xFF) ∧ (∀ b ∈ [0, 0xFF], b ≤ 0xFF) ∧ 0xFF ≤ 0xFF ∧ 1 ≤ 1 ∧
    [0, 0xFF].length ≤ cfgT.maxPayload := by decide

theorem witness_PlacedCommandRuns : (waiting []).bus = [] := by decide

/-- A legal and an illegal word at the port. -/
theorem witness_StepRunsDecodedWord :
    (waiting [.write 4 64 0x04000000, .read 4 68]).bus = .write 4 on.cfg.base 0x04000000 :: [.read 4 68] ∧
    decode 0x04000000 = .ok .tick ∧
    (waiting [.write 4 64 0x08100002]).bus = .write 4 on.cfg.base 0x08100002 :: [] ∧
    decode 0x08100002 = .error .reservedBits := by
  exact ⟨by decide, rfl, by decide, rfl⟩

/-- A refused access that is not legal, and a legal access that is answered. -/
theorem witness_StepRefusesOnlyIllegalAccesses :
    (refusalOf (step (waiting [.read 2 64])) = some .narrowAccess ∧ ¬ (Access.read 2 64).Legal cfgT) ∧
    ((Access.read 4 124).Legal cfgT ∧ (nextOf (step (waiting [.read 4 124]))).isSome) := by decide

theorem witness_RegisterReadsAreIdempotent :
    (waiting [.read 4 124, .read 4 124]).bus =
      .read 4 (on.cfg.base + Reg.id.offset) :: .read 4 (on.cfg.base + Reg.id.offset) :: [] := by decide

/-- A read at the last register; a next state of a step that serves no write to CMD. -/
theorem witness_RegisterMap :
    (waiting [.read 4 124]).bus = .read 4 (on.cfg.base + Reg.id.offset) :: [] ∧
    nextOf (step (waiting [.write 4 68 1])) = some on ∧
    ∀ (w : Word) (rest : List Access), (waiting [.write 4 68 1]).bus ≠ .write 4 (waiting [.write 4 68 1]).cfg.base w :: rest :=
  ⟨by decide, by decide, fun w rest h => absurd (show (68 : Nat) = 64 by injection h with h _; injection h) (by decide)⟩

/-- A write to a read-only register and a write to CMD. -/
theorem witness_PortWrites :
    ((waiting [.write 4 124 1]).bus = .write 4 (on.cfg.base + Reg.id.offset) 1 :: [] ∧ Reg.id ≠ .cmd) ∧
    (waiting [.write 4 64 1]).bus = .write 4 (on.cfg.base + Reg.cmd.offset) 1 :: [] := by decide

theorem witness_ReadSeesTheCommandBefore :
    (waiting [.write 4 64 0x04000000, .read 4 88]).bus =
      .write 4 on.cfg.base 0x04000000 :: .read 4 (on.cfg.base + Reg.ticks.offset) :: [] := by decide

/-- A full queue. -/
theorem witness_StatusFields : (withBlk fun S => { S with q := [reqA, reqB] }).blk.q.length ≤ cfgT.queueDepth := by decide

/-- A full staging buffer, a full receive buffer, no current request, and one with a payload of full length. -/
theorem witness_ErrAndInfoFields :
    ([1, 2] : List Byte).length ≤ cfgT.maxPayload ∧ (List.replicate 9 (0x11 : Byte)).length ≤ cfgT.maxPayload + 7 ∧
    on.blk.cur = none ∧ sent.blk.cur = some reqA ∧ reqA.payload.length ≤ cfgT.maxPayload := by decide

theorem witness_ConfigurationFields : nextOf (step (waiting [.write 4 68 1])) = some on := by decide

theorem witness_NopCommand : (0x00000001#32).extractLsb' 24 8 = 0#8 ∧ (0x00000001#32).extractLsb' 0 24 ≠ 0#24 := by decide

theorem witness_ClrErrCommand : (withBlk fun S => { S with err := 0x0C }).blk.err = 0x0C := by decide

/-- The state of R100's example. -/
def twelve : State := withBlk fun S => { S with now := 12, tmrArmed := true, tmrDeadline := 13 }

theorem witness_TickCommand : twelve.blk.now = 12 ∧ twelve.blk.tmrArmed = true ∧ twelve.blk.tmrDeadline = 13 := by decide

/-- The shortest and the longest duration, the latter across the wrap. -/
theorem witness_TimerRaisesExactlyAtItsDeadline :
    let s0 := withBlk fun S => { S with tmrArmed := true }
    let s1 := withBlk fun S => { S with now := 0xFFFFFFFF, tmrArmed := true, tmrDeadline := 0x7FFFFFFE }
    (0 ≤ 2 ^ 31 - 1 ∧ s0.blk.tmrArmed = true ∧ s0.blk.tmrRaised = false ∧
      s0.blk.tmrDeadline = s0.blk.now + BitVec.ofNat 32 0) ∧
    (2 ^ 31 - 1 ≤ 2 ^ 31 - 1 ∧ s1.blk.tmrArmed = true ∧ s1.blk.tmrRaised = false ∧
      s1.blk.tmrDeadline = s1.blk.now + BitVec.ofNat 32 (2 ^ 31 - 1)) := by decide +kernel

theorem witness_StageByteCommand :
    (withBlk fun S => { S with stage := [1, 2] }).blk.stage.length = cfgT.maxPayload ∧
    (withBlk fun S => { S with stage := [1] }).blk.stage.length ≠ cfgT.maxPayload := by decide

/-- The three clauses of ENQUEUE and SEND_DEBUG; the queue one short of full in the last. -/
theorem witness_EnqueueCommand :
    (withBlk fun S => { S with stageOvf := true }).blk.stageOvf = true ∧
    (pollA.blk.stageOvf = false ∧ pollA.blk.q.length = cfgT.queueDepth) ∧
    (pollB.blk.stageOvf = false ∧ pollB.blk.q.length ≠ cfgT.queueDepth) := by decide

theorem witness_SendDebugCommand :
    (withBlk fun S => { S with stageOvf := true, q := [reqA, reqA] }).blk.stageOvf = true ∧
    (pollA.blk.stageOvf = false ∧ pollA.blk.q.length = cfgT.queueDepth) ∧
    (pollB.blk.stageOvf = false ∧ pollB.blk.q.length ≠ cfgT.queueDepth) := by decide

/-- A sequence without RESET that sends a request with an acknowledgement and commits a debug message; and one request waiting,
one enqueued between two RUNs: exactly the capacity. -/
theorem witness_QueueIsFifo :
    Instr.reset ∉ [Instr.run, .sendDebug true, .setExtEventAck, .run, .run] ∧
    pollB.blk.txState = .poll ∧ pollB.blk.stageOvf = false ∧ (∀ r ∈ pollB.blk.q, r.ackExpected = false) ∧
    (∀ i ∈ [Instr.run, .enqueue 1 false, .run], i = .run ∨ i = .enqueue 1 false) ∧
    pollB.blk.q.length + (enqueued pollB.blk.stage [.run, .enqueue 1 false, .run]).length ≤ pollB.cfg.queueDepth := by
  decide

/-- A command that is none of the three that write the accumulator, with its next state. -/
theorem witness_CrcByteCommand :
    nextOf (exec .tick on) = some (withBlk fun S => { S with now := 1 }) ∧
    Instr.tick ≠ .crcInit ∧ (∀ b : Byte, Instr.tick ≠ .crcByte b) ∧ Instr.tick ≠ .reset := by
  exact ⟨by decide, by decide, fun b => by simp, by decide⟩

theorem witness_CrcStepAndFinal : 0 < 8 ∧ 7 < 8 ∧ 0 < 32 ∧ 31 < 32 := by decide

theorem witness_ReflectedCrcIsEquivalent : cfgT.crcRefin = true ∧ cfgT.crcRefout = true := by decide

/-- The default polynomial, and a bit in the type byte, in the length field and in the last byte of the trailer. -/
theorem witness_SingleBitErrorsAreDetected :
    cfgT.crcPoly = 0x04C11DB7 ∧ 8 < frame10.length + 2 ∧ 7 < 8 ∧ ([1, 2] : List Byte).length ≤ cfgT.maxPayload ∧
    0 < 2 + 7 ∧ 2 < 2 + 7 ∧ 8 < 2 + 7 := by decide

/-- An empty payload and one of full length. -/
theorem witness_FrameLayout :
    ([] : List Byte).length ≤ cfgT.maxPayload ∧ ([0x7E, 0xFF] : List Byte).length ≤ cfgT.maxPayload := by decide

theorem witness_DecodeOfFrame :
    ([] : List Byte).length ≤ cfgT.maxPayload ∧ ([0x7E, 0xFF] : List Byte).length ≤ cfgT.maxPayload := by decide

/-- CODEC-14 (six bytes), CODEC-15 (a wrong declared length), and the shortest frames whose length agrees, with the right
checksum and with another. -/
theorem witness_LengthIsCheckedFirst :
    ([1, 2, 3, 4, 5, 6] : List Byte).length < 7 ∧
    (([0x10, 0x05, 0x00, 0xAA, 0x9E, 0x00, 0x95, 0x41] : List Byte).getD 1 0).toNat + 256 * 0 ≠ 8 - 7 ∧
    (7 ≤ frame10.length ∧ (frame10.getD 1 0).toNat + 256 * (frame10.getD 2 0).toNat = frame10.length - 7) ∧
    decodeFrame cfgT frame10 = .ok 0x10 [] ∧ decodeFrame cfgT (flipBit frame10 6 7) = .checksumMismatch := by
  decide +kernel

/-- A configuration whose checksum is always 0x7E7E7E7E: the polynomial 0 shifts every byte out. -/
def cfgFlags : Config where
  toParams := { Params.standard 0 with maxPayload := 65535, crcPoly := 0, crcInit := 0, crcRefin := false, crcRefout := false, crcXorout := 0x7E7E7E7E }
  valid := by decide

theorem crcFold_cfgFlags (bs : List Byte) : crcFold cfgFlags 0 bs = 0 := by
  have h0 : ∀ b : Byte, crcStep cfgFlags 0 b = 0 := by decide +kernel
  induction bs with
  | nil => rfl
  | cons b rest ih => rw [crcFold, h0, ih]

/-- A frame with a payload of 0x7D7D bytes 0x7D has no other bytes than 0x7E and 0x7D. -/
theorem frame_cfgFlags (p : List Byte) (hp : ∀ b ∈ p, b = 0x7D) (hn : p.length = 0x7D7D) :
    ∀ b ∈ frame cfgFlags 0x7E p, b = 0x7E ∨ b = 0x7D := by
  have hi : cfgFlags.crcInit = 0 := rfl
  have hf : codecChecksum cfgFlags 0x7E p = 0x7E7E7E7E := by
    unfold codecChecksum
    rw [hi, crcFold_cfgFlags, crcFold_cfgFlags, crcFold_cfgFlags]
    decide
  have hl : lengthBytes p.length = [0x7D, 0x7D] := by rw [hn]; decide
  have hc : checksumBytes 0x7E7E7E7E = [0x7E, 0x7E, 0x7E, 0x7E] := by decide
  intro b hb
  unfold frame content at hb
  rw [hf, hl, hc] at hb
  simp only [List.cons_append, List.nil_append, List.mem_cons, List.mem_append, List.not_mem_nil] at hb
  have := hp b
  tauto

/-- A frame all of whose bytes are stuffed: type, length 0x7D7D, payload and checksum. -/
theorem witness_EncodedSizes : ∀ b ∈ frame cfgFlags 0x7E (List.replicate 0x7D7D 0x7D), b = 0x7E ∨ b = 0x7D :=
  frame_cfgFlags _ (fun _ h => List.eq_of_mem_replicate h) List.length_replicate

/-- From HUNT with the longest list, from DATA with an empty buffer. -/
theorem witness_UnstuffingInvertsStuffing :
    ((List.replicate 9 (0x7E : Byte)).length ≤ cfgT.maxPayload + 7 ∧ on.blk.rxState = .hunt) ∧
    ((rx .data []).blk.rxState = .data ∧ (rx .data []).blk.rxBuf = []) := by decide

theorem witness_WireFramesAreReceived :
    ([0x7E, 0x7D] : List Byte).length ≤ cfgT.maxPayload ∧ on.blk.rxState = .hunt ∧
    ((rx .data []).blk.rxState = .data ∧ (rx .data []).blk.rxBuf = []) ∧
    (0x10 : Byte) ≠ cfgT.typeAck ∧ (0x10 : Byte) ≠ cfgT.typeNack := by decide

/-- The seven rows of the table, each in a state that keeps the invariants; both sides of the budget. -/
theorem witness_RunTransitionTable :
    (on.Inv ∧ on.blk.txState = .poll ∧ on.blk.q = []) ∧
    (pollA.Inv ∧ pollA.blk.txState = .poll ∧ pollA.blk.q = reqA :: [reqB] ∧ reqA.ackExpected = true) ∧
    (pollB.Inv ∧ pollB.blk.txState = .poll ∧ pollB.blk.q = reqB :: [] ∧ reqB.ackExpected = false) ∧
    ((sentWith .ack 1).Inv ∧ (sentWith .ack 1).blk.txState = .transmit ∧ (sentWith .ack 1).blk.cur = some reqA ∧
      (sentWith .ack 1).blk.extEvt = .ack) ∧
    ((sentRaised 0).Inv ∧ (sentRaised 0).blk.cur = some reqA ∧ (sentRaised 0).blk.extEvt ≠ .ack ∧
      (sentRaised 0).blk.tmrRaised = true ∧ (sentRaised 0).blk.retryCnt.toNat + 1 ≤ cfgT.maxRetries) ∧
    ((sentWith .nack 1).Inv ∧ (sentWith .nack 1).blk.cur = some reqA ∧ (sentWith .nack 1).blk.extEvt = .nack ∧
      cfgT.maxRetries < (sentWith .nack 1).blk.retryCnt.toNat + 1) ∧
    (sent.Inv ∧ sent.blk.txState = .transmit ∧ sent.blk.extEvt = .none ∧ sent.blk.tmrRaised = false) :=
  ⟨by decide, by decide, by decide, by decide, by decide, by decide, by decide⟩

theorem witness_SetExtEventCommands :
    ((0x05030000#32).extractLsb' 24 8 = 0x05#8 ∧ (0x05030000#32).extractLsb' 16 8 ≠ 0x01#8 ∧
      (0x05030000#32).extractLsb' 16 8 ≠ 0x02#8) ∧ pollA.blk.txState = .poll := by decide

/-- An idle RUN, a timeout and a NACK that fall together, and a RUN: one failure, which is the budget of `cfgT`. -/
def oneFailure : List Instr := [.run, .tick, .setExtEventNack, .run]

/-- The commands before a RUN that sees the acknowledgement, and before one that sees the failure past the budget. -/
theorem witness_AttemptsAreCounted_any :
    (Instr.reset ∉ oneFailure ∧ Instr.init ∉ oneFailure ∧ trace ackSeen (.run :: oneFailure) pollA = [] ∧
      (trace failureSeen (.run :: oneFailure) pollA).length = 1 ∧ 1 ≤ pollA.cfg.maxRetries) ∧
    (trace ackSeen (.run :: oneFailure ++ [.setExtEventAck]) pollA = [] ∧
      (trace failureSeen (.run :: oneFailure ++ [.setExtEventAck]) pollA).length = 1 ∧
      seen State.seesAck (execAll (.run :: oneFailure ++ [.setExtEventAck]) pollA) = some true) ∧
    (trace ackSeen (.run :: oneFailure ++ [.tick]) pollA = [] ∧
      (trace failureSeen (.run :: oneFailure ++ [.tick]) pollA).length = pollA.cfg.maxRetries ∧
      seen State.seesFailure (execAll (.run :: oneFailure ++ [.tick]) pollA) = some true) := by decide +kernel

/-- No round, as many as the budget, and one more. -/
theorem witness_AttemptsAreCounted :
    pollA.blk.txState = .poll ∧ pollA.blk.q = reqA :: [reqB] ∧ reqA.ackExpected = true ∧
    ([] : List Bool).length ≤ pollA.cfg.maxRetries ∧ [true].length ≤ pollA.cfg.maxRetries ∧
    [false, true].length = pollA.cfg.maxRetries + 1 := by decide

theorem witness_RetransmissionsAreSpaced :
    1 ≤ sent.cfg.ackTimeout ∧ sent.blk.txState = .transmit ∧ sent.blk.cur = some reqA ∧ sent.blk.extEvt = .none ∧
    sent.blk.retryCnt = 0 ∧ sent.blk.tmrArmed = true ∧ sent.blk.tmrRaised = false ∧
    sent.blk.tmrDeadline = sent.blk.now + BitVec.ofNat 32 sent.cfg.ackTimeout ∧
    1 < sent.cfg.ackTimeout * (sent.cfg.maxRetries + 1) := by decide

/-- Each clause of the bytes that close no frame, at the buffer's bounds. -/
theorem witness_RxByteCollects :
    (on.blk.rxState = .hunt ∧ (0x7D : Byte) ≠ 0x7E) ∧ on.blk.rxState = .hunt ∧
    ((rx .data []).blk.rxState = .data ∧ (rx .data []).blk.rxBuf = []) ∧
    ((rx .data (List.replicate 8 0x11)).blk.rxState = .data ∧ (0x7F : Byte) ≠ 0x7E ∧ (0x7F : Byte) ≠ 0x7D ∧
      (rx .data (List.replicate 8 0x11)).blk.rxBuf.length ≠ cfgT.maxPayload + 7) ∧
    ((rx .esc []).blk.rxState = .esc ∧ (rx .esc []).blk.rxBuf.length ≠ cfgT.maxPayload + 7) ∧
    ((rx .data (List.replicate 9 0x11)).blk.rxState = .data ∧
      (rx .data (List.replicate 9 0x11)).blk.rxBuf.length = cfgT.maxPayload + 7) ∧
    ((rx .esc (List.replicate 9 0x11)).blk.rxState = .esc ∧
      (rx .esc (List.replicate 9 0x11)).blk.rxBuf.length = cfgT.maxPayload + 7) := by decide

/-- The five results of `decode_frame` at a closing flag: RX-7, RX-4's kind, RX-8, CODEC-4 and RX-3. -/
theorem witness_RxByteClosesFrame :
    ((rx .data [1, 2, 3]).blk.rxState = .data ∧ (rx .data [1, 2, 3]).blk.rxBuf ≠ []) ∧
    decodeFrame cfgT [1, 2, 3] = .lengthMismatch ∧
    decodeFrame cfgT [0x11, 0x00, 0x00, 0x62, 0x7A, 0x67, 0xE3] = .checksumMismatch ∧
    decodeFrame cfgT frameAck = .ok cfgT.typeAck [] ∧
    decodeFrame cfgT frameNack = .ok cfgT.typeNack [] ∧
    (decodeFrame cfgT frame10 = .ok 0x10 [] ∧ (0x10 : Byte) ≠ cfgT.typeAck ∧ (0x10 : Byte) ≠ cfgT.typeNack) := by
  decide +kernel

theorem witness_TwoFlagsResynchronise : (rx .data frame10).blk.rxState ≠ .esc := by decide

/-- Two states that differ in the transmit side only. -/
theorem witness_ReceiveIgnoresTransmit :
    on.cfg = sent.cfg ∧ on.blk.rxState = sent.blk.rxState ∧ on.blk.rxBuf = sent.blk.rxBuf ∧ on ≠ sent := by decide

/-- A bit cleared by CLR_ERR and a bit set by SEND_DEBUG. -/
theorem witness_ErrBitsAreSticky :
    let s := withBlk fun S => { S with err := 0x80, q := [reqA, reqB] }
    (7 < 8 ∧ s.blk.err.getLsbD 7 = true ∧ seen (fun t => t.blk.err.getLsbD 7) (exec (.clrErr 0x80) s) = some false) ∧
    (s.blk.err.getLsbD 2 = false ∧ seen (fun t => t.blk.err.getLsbD 2) (exec (.sendDebug true) s) = some true) := by decide

/-- For every clause a command that changes the field. -/
theorem witness_OnlyTheNamedCommandsWrite :
    seen (fun t => t.blk) (exec .init { sent with blk := { sent.blk with extEvt := .ack, retryCnt := 1, tmrRaised := true } })
      = some { on.blk with tmrDeadline := 1 } ∧
    seen (fun t => (t.blk.now, t.blk.tmrRaised)) (exec .tick sent) = some (1, true) ∧
    seen (fun t => (t.blk.tmrDeadline, t.blk.q, t.txd.length)) (exec .run pollA) = some (1, [reqB], 9) ∧
    seen (fun t => t.blk.stage) (exec (.stageByte 1) on) = some [1] ∧
    seen (fun t => t.blk.crcAcc) (exec (.crcByte 0xFF) on) = some 0xFFFFFF00 ∧
    seen (fun t => t.blk.rxState) (exec (.rxByte 0x7E) on) = some .data ∧
    seen (fun t => t.dispatch) (exec (.rxByte 0x7E) (rx .data frame10)) = some [{ type := 0x10, payload := [] }] :=
  ⟨by decide, by decide, by decide +kernel, by decide, by decide +kernel, by decide, by decide +kernel⟩

/-- Two systems with one `S` and different channels and waiting accesses. -/
theorem witness_CommandsDependOnTheBlockAlone :
    on.cfg = ({ waiting [.read 4 64] with txd := [1] } : State).cfg ∧
    on.blk = ({ waiting [.read 4 64] with txd := [1] } : State).blk := by decide

/-- A state with a full queue that keeps the invariants, and its next state under RUN. -/
theorem witness_StepKeepsInvariants :
    ({ pollA with bus := [.write 4 64 0x03000000] } : State).Inv ∧
    (nextOf (step { pollA with bus := [.write 4 64 0x03000000] })).isSome = true := by decide +kernel

/-- A reachable state other than power-on: a waiting TICK served. -/
theorem witness_ReachableStatesKeepInvariants : Reachable cfgT (withBlk fun S => { S with now := 1 }) :=
  .step (waiting [.write 4 64 0x04000000]) _ (.arrive on (.write 4 64 0x04000000) .powerOn) (by rfl)

end Sys2Proof.Tests
end

section
/-! Proof of the obligation of 00_scope.md: the parameter sets that make a configuration (R14). -/

namespace Sys2Proof

/-- `Params.wf` in the words of R5 to R12: the timeout's inclusive bound and the base's divisibility. -/
theorem Params.wf_iff (p : Params) : p.wf = true ↔
    (p.maxRetries ≤ 254 ∧ p.ackTimeout ≤ 2 ^ 31 - 1 ∧ 1 ≤ p.maxPayload ∧ p.maxPayload ≤ 65535 ∧
     1 ≤ p.queueDepth ∧ p.queueDepth ≤ 255 ∧
     p.typeAck ≠ p.typeNack ∧ p.typeAck ≠ p.typeDebug ∧ p.typeNack ≠ p.typeDebug ∧ 64 ∣ p.base) := by
  have timeout : p.ackTimeout < 2 ^ 31 ↔ p.ackTimeout ≤ 2 ^ 31 - 1 := by omega
  simp only [Params.wf, Bool.and_eq_true, decide_eq_true_eq, and_assoc, timeout, Nat.dvd_iff_mod_eq_zero]

/-- `Config.build` refuses nothing but an ill-formed parameter set, and keeps every parameter it accepts. -/
theorem Config.build_eq_some_iff (p : Params) (c : Config) : Config.build p = some c ↔ c.toParams = p := by
  constructor
  · intro h
    obtain ⟨_, hc⟩ := Option.dite_none_right_eq_some.mp h
    exact (congrArg Config.toParams (Option.some.inj hc)).symm
  · rintro rfl
    exact dif_pos c.valid

/-- A configuration with the parameters `p` exists exactly when `p` keeps the bounds: a `Config` carries their proof. -/
theorem Config.exists_toParams_eq_iff (p : Params) : (∃ c : Config, c.toParams = p) ↔ p.wf = true := by
  constructor
  · rintro ⟨c, rfl⟩
    exact c.valid
  · intro h
    exact ⟨{ toParams := p, valid := h }, rfl⟩

/-- Settles O16: `build` answers a configuration with exactly the given parameters, and one exists iff they are in bounds. -/
theorem configurationsAreBounded : Obligations.ConfigurationsAreBounded := by
  intro p
  calc (∃ c, Config.build p = some c ∧ c.toParams = p)
      ↔ ∃ c : Config, c.toParams = p := by simp only [Config.build_eq_some_iff, and_self]
    _ ↔ p.wf = true := Config.exists_toParams_eq_iff p
    _ ↔ _ := p.wf_iff

end Sys2Proof
end

section
/-! What every command and every step does, said once: a command replaces `S` and appends to the channels, both a function
of the parameters and `S` (R84), and a step leaves the parameters as they are and `S` as it is or as one command makes it. -/

namespace Sys2Proof.Machine

/-- The new `S` and the output of a legal command, as a function of the parameters and `S` (R84). -/
def commandEffect (c : Config) (S : Block) : Instr → Block × Out
  | .nop => (nopOp S, Out.empty)
  | .reset => (resetOp c S, Out.empty)
  | .init => (initOp S, Out.empty)
  | .run => runOp c S
  | .tick => (tickOp S, Out.empty)
  | .setExtEventAck => (setExtEventOp .ack S, Out.empty)
  | .setExtEventNack => (setExtEventOp .nack S, Out.empty)
  | .stageClear => (stageClearOp S, Out.empty)
  | .stageByte b => (stageByteOp c b S, Out.empty)
  | .enqueue t a => (Block.enqueue c t a S, Out.empty)
  | .sendDebug a => (Block.enqueue c c.typeDebug a S, Out.empty)
  | .crcInit => (crcInitOp c S, Out.empty)
  | .crcByte b => (crcByteOp c b S, Out.empty)
  | .crcRead => (crcReadOp c S, Out.empty)
  | .rxByte b => rxByteOp c b S
  | .clrErr m => (clrErrOp m S, Out.empty)

/-- Every command answers a next state (R85): its effect, committed. -/
theorem exec_eq_commit (i : Instr) (s : State) : exec i s = .next (s.commit (commandEffect s.cfg s.blk i)) := by
  cases i
  case run => rfl
  case rxByte b => rfl
  all_goals exact congrArg Host.Outcome.next (State.onBlock_eq_commit _ s)

/-- The answer of a command is its committed effect. -/
theorem eq_commit_of_exec {i : Instr} {s t : State} (h : exec i s = .next t) :
    t = s.commit (commandEffect s.cfg s.blk i) := by
  rw [exec_eq_commit] at h
  exact (Host.Outcome.next.inj h).symm

/-- A word written to CMD is a legal command, or it has the one effect of every illegal word (R87, R91). -/
theorem runWord_cases (w : Word) (s : State) :
    (∃ i, decode w = .ok i ∧ runWord w s = .next (s.commit (commandEffect s.cfg s.blk i))) ∨
    (∃ e, decode w = .error e ∧ runWord w s = .next (s.onBlock illegalOp)) := by
  unfold runWord
  cases decode w with
  | ok i => exact .inl ⟨i, rfl, exec_eq_commit i s⟩
  | error e => exact .inr ⟨e, rfl, rfl⟩

/-- A step leaves the parameters as they are, and `S` as it is or as one command, legal or not, makes it. -/
theorem step_cfg_blk {s t : State} (h : step s = .next t) :
    t.cfg = s.cfg ∧
    (t.blk = s.blk ∨ (∃ i, t.blk = (commandEffect s.cfg s.blk i).1) ∨ t.blk = illegalOp s.blk) := by
  rcases step_cases s with ⟨-, hs⟩ | ⟨r, rest, -, hs⟩ | ⟨w, rest, -, hs⟩ | ⟨r, w, rest, -, -, hs⟩ | ⟨a, rest, e, -, hs⟩
  case inr.inr.inr.inr => simp [hs] at h
  case inr.inr.inl =>
    rcases runWord_cases w { s with bus := rest } with ⟨i, -, hw⟩ | ⟨e, -, hw⟩ <;>
      cases hw.symm.trans (hs.symm.trans h)
    · exact ⟨rfl, .inr (.inl ⟨i, rfl⟩)⟩
    · exact ⟨rfl, .inr (.inr rfl)⟩
  all_goals
    cases hs.symm.trans h
    exact ⟨rfl, .inl rfl⟩

end Sys2Proof.Machine
end

section
/-! Proofs of the obligations of 10_state.md about the invariants I1 to I7 (R48) and the payload bound (R32): one rule per
group of fields that the invariants speak of, then one lemma per command, then every step and every run. -/

namespace Sys2Proof.Machine

/-! The invariants under a write to the fields they speak of; they do not speak of the other fields -/

section
variable {c : Config} {S : Block}

/-- The timer may be stopped at any time. -/
theorem Block.Inv.disarm (h : S.Inv c) : { S with tmrArmed := false }.Inv c := by
  obtain ⟨-, hcur, hretry, hq, hstage, hrx, hpay⟩ := h
  exact ⟨nofun, hcur, hretry, hq, hstage, hrx, hpay⟩

/-- The transmit FSM may return to POLL without a request, the counter at 0 and the timer stopped. -/
theorem Block.Inv.toPoll (h : S.Inv c) :
    { S with txState := .poll, cur := none, retryCnt := 0, tmrArmed := false }.Inv c := by
  obtain ⟨-, -, -, hq, hstage, hrx, hpayQ, -⟩ := h
  exact ⟨nofun, ⟨fun h => (h rfl).elim, nofun⟩, ⟨Nat.zero_le _, fun _ => rfl⟩, hq, hstage, hrx, hpayQ, by simp⟩

/-- The transmit FSM may enter TRANSMIT, timer running, with a request that keeps the payload bound. -/
theorem Block.Inv.toTransmit (h : S.Inv c) {r : Request} (hr : r.payload.length ≤ c.maxPayload) :
    { S with txState := .transmit, cur := some r, retryCnt := 0, tmrArmed := true }.Inv c := by
  obtain ⟨-, -, -, hq, hstage, hrx, hpayQ, -⟩ := h
  exact ⟨fun _ => rfl, ⟨fun _ => rfl, fun _ => nofun⟩, ⟨Nat.zero_le _, nofun⟩, hq, hstage, hrx, hpayQ, by simpa using hr⟩

/-- In TRANSMIT the timer may run and the counter be any number within the retry budget. -/
theorem Block.Inv.retry (h : S.Inv c) (htx : S.txState = .transmit) {k : Nat} (hk : k ≤ c.maxRetries) :
    { S with retryCnt := BitVec.ofNat 8 k, tmrArmed := true }.Inv c := by
  obtain ⟨-, hcur, -, hq, hstage, hrx, hpay⟩ := h
  have hbudget := c.maxRetries_le
  have hcnt : (BitVec.ofNat 8 k).toNat ≤ c.maxRetries := by
    rw [BitVec.toNat_ofNat]
    omega
  exact ⟨fun _ => htx, hcur, ⟨hcnt, by simp [htx]⟩, hq, hstage, hrx, hpay⟩

/-- The queue may become any list of requests within its depth and the payload bound. -/
theorem Block.Inv.setQueue (h : S.Inv c) {q : List Request} (hlen : q.length ≤ c.queueDepth)
    (hpay : ∀ r ∈ q, r.payload.length ≤ c.maxPayload) : { S with q := q }.Inv c := by
  obtain ⟨harmed, hcur, hretry, -, hstage, hrx, -, hpayCur⟩ := h
  exact ⟨harmed, hcur, hretry, hlen, hstage, hrx, hpay, hpayCur⟩

/-- The staging buffer may become any bytes within P_MAX_PAYLOAD. -/
theorem Block.Inv.setStage (h : S.Inv c) {bs : List Byte} (hlen : bs.length ≤ c.maxPayload) :
    { S with stage := bs }.Inv c := by
  obtain ⟨harmed, hcur, hretry, hq, -, hrx, hpay⟩ := h
  exact ⟨harmed, hcur, hretry, hq, hlen, hrx, hpay⟩

/-- The receive FSM may enter any state with bytes within its buffer's capacity, none in HUNT. -/
theorem Block.Inv.setRx (h : S.Inv c) {x : RxState} {bs : List Byte} (hlen : bs.length ≤ c.maxPayload + 7)
    (hhunt : x = .hunt → bs = []) : { S with rxState := x, rxBuf := bs }.Inv c := by
  obtain ⟨harmed, hcur, hretry, hq, hstage, -, hpay⟩ := h
  exact ⟨harmed, hcur, hretry, hq, hstage, ⟨hlen, hhunt⟩, hpay⟩

/-- The head of the queue may be taken: the rest keeps the invariants, and the head the payload bound. -/
theorem Block.Inv.dequeue (h : S.Inv c) {r : Request} {rest : List Request} (hq : S.q = r :: rest) :
    { S with q := rest }.Inv c ∧ r.payload.length ≤ c.maxPayload := by
  obtain ⟨-, -, -, hlen, -, -, hpay, -⟩ := id h
  rw [Block.QueueBounded, hq, List.length_cons] at hlen
  rw [hq, List.forall_mem_cons] at hpay
  obtain ⟨hr, hrest⟩ := hpay
  exact ⟨h.setQueue (by omega) hrest, hr⟩

/-- The mailbox write touches no field the invariants speak of. -/
theorem Block.Inv.postExt (h : S.Inv c) (ev : ExtEvent) : (S.postExt ev).2.Inv c := by
  simpa only [Block.Inv, Block.ArmedOnlyInTransmit, Block.CurIffTransmit, Block.RetryBounded, Block.QueueBounded,
    Block.StageBounded, Block.RxBounded, Block.PayloadsBounded, Block.postExt_txState, Block.postExt_tmrArmed,
    Block.postExt_cur, Block.postExt_retryCnt, Block.postExt_q, Block.postExt_stage, Block.postExt_rxState,
    Block.postExt_rxBuf] using h

/-! The commands -/

/-- Every field at its reset value keeps the invariants. -/
theorem Block.reset_inv (c : Config) : (Block.reset c).Inv c :=
  ⟨nofun, ⟨fun h => (h rfl).elim, nofun⟩, ⟨Nat.zero_le _, fun _ => rfl⟩, Nat.zero_le _, Nat.zero_le _,
    ⟨Nat.zero_le _, fun _ => rfl⟩, nofun, nofun⟩

/-- TICK stops the timer or leaves it. -/
theorem tickOp_inv (h : S.Inv c) : (tickOp S).Inv c := by
  rcases tickOp_cases S with ⟨-, -, ht⟩ | ⟨-, ht⟩ <;> rw [ht]
  · exact h.disarm
  · exact h

/-- STAGE_BYTE appends to a buffer that is not full. -/
theorem stageByteOp_inv (b : Byte) (h : S.Inv c) : (stageByteOp c b S).Inv c := by
  obtain ⟨-, -, -, -, hstage, -, -⟩ := id h
  rcases stageByteOp_cases c b S with ⟨-, hb⟩ | ⟨hfull, hb⟩ <;> rw [hb]
  · exact h
  · have hroom : S.stage.length + 1 ≤ c.maxPayload := by omega
    exact h.setStage (List.length_append.trans_le hroom)

/-- An accepted request goes into a queue that is not full, with the staged bytes as its payload. -/
theorem enqueue_inv (t : Byte) (a : Bool) (h : S.Inv c) : (Block.enqueue c t a S).Inv c := by
  obtain ⟨-, -, -, hq, hstage, -, hpay, -⟩ := id h
  rcases Block.enqueue_cases c t a S with ⟨-, he⟩ | ⟨-, -, he⟩ | ⟨-, hfull, he⟩ <;> rw [he]
  · exact h
  · exact h
  · have hroom : S.q.length + 1 ≤ c.queueDepth := by omega
    exact h.setQueue (List.length_append.trans_le hroom)
      (List.forall_mem_append.mpr ⟨hpay, List.forall_mem_singleton.mpr hstage⟩)

/-- RUN, by its seven outcomes. -/
theorem runOp_inv (h : S.Inv c) : (runOp c S).1.Inv c := by
  rcases runOp_cases c S with ⟨-, -, hr⟩ | ⟨r, rest, -, hq, -, hr⟩ | ⟨r, rest, hpoll, hq, -, hr⟩ | ⟨r, -, -, -, hr⟩ |
    ⟨r, htx, -, -, -, hk, hr⟩ | ⟨r, -, -, -, -, -, hr⟩ | ⟨-, -, -, hr⟩ <;> rw [hr]
  · exact h
  · obtain ⟨hrest, hpay⟩ := h.dequeue hq
    exact hrest.toTransmit hpay
  · obtain ⟨hrest, -⟩ := h.dequeue hq
    obtain ⟨-, -, ⟨-, hzero⟩, -⟩ := id h
    simpa only [hzero hpoll] using hrest
  · exact h.toPoll
  · exact h.retry htx hk
  · exact h.toPoll
  · exact h

/-- The close of a frame touches ERR and the mailbox only. -/
theorem endOfFrame_inv (f : List Byte) (h : S.Inv c) : (endOfFrame c f S).blk.Inv c := by
  rcases endOfFrame_cases c f S with ⟨-, he⟩ | ⟨-, he⟩ | ⟨p, -, he⟩ | ⟨p, -, he⟩ | ⟨t, p, -, -, -, he⟩ <;> rw [he]
  · exact h
  · exact h
  · exact h.postExt .ack
  · exact h.postExt .nack
  · exact h

/-- RX_BYTE, by its eight outcomes. -/
theorem rxByteOp_inv (b : Byte) (h : S.Inv c) : (rxByteOp c b S).1.Inv c := by
  obtain ⟨-, -, -, -, -, ⟨hlen, -⟩, -⟩ := id h
  rcases rxByteOp_cases c b S with ⟨-, -, hr⟩ | ⟨-, -, hr⟩ | ⟨-, -, -, hr⟩ | ⟨-, -, -, hr⟩ | ⟨-, -, -, hr⟩ |
    ⟨-, -, hr⟩ | ⟨x, -, hfull, hr⟩ | ⟨-, -, hr⟩ <;> rw [hr]
  · exact h
  · exact h.setRx (Nat.zero_le _) nofun
  · exact h
  · exact (endOfFrame_inv S.rxBuf h).setRx (Nat.zero_le _) fun _ => rfl
  · exact h.setRx hlen nofun
  · exact h.setRx (Nat.zero_le _) nofun
  · have hroom : S.rxBuf.length + 1 ≤ c.maxPayload + 7 := by omega
    exact h.setRx (List.length_append.trans_le hroom) nofun
  · exact h.setRx (Nat.zero_le _) fun _ => rfl

/-- Every legal command keeps the invariants; those without a lemma of their own write no field the invariants speak of. -/
theorem commandEffect_inv (i : Instr) (h : S.Inv c) : (commandEffect c S i).1.Inv c := by
  cases i with
  | nop => exact h
  | reset => exact Block.reset_inv c
  | init => exact h.toPoll
  | run => exact runOp_inv h
  | tick => exact tickOp_inv h
  | setExtEventAck => exact h.postExt .ack
  | setExtEventNack => exact h.postExt .nack
  | stageClear => exact h.setStage (Nat.zero_le _)
  | stageByte b => exact stageByteOp_inv b h
  | enqueue t a => exact enqueue_inv t a h
  | sendDebug a => exact enqueue_inv c.typeDebug a h
  | crcInit => exact h
  | crcByte b => exact h
  | crcRead => exact h
  | rxByte b => exact rxByteOp_inv b h
  | clrErr m => exact h

end

/-! Steps and runs -/

/-- Settles O59: a step leaves `S`, or one command makes it, and every command keeps the invariants. -/
theorem stepKeepsInvariants : Obligations.StepKeepsInvariants := by
  intro s t h hst
  obtain ⟨hcfg, hblk⟩ := step_cfg_blk hst
  rw [State.Inv, hcfg]
  rcases hblk with hb | ⟨i, hb⟩ | hb <;> rw [hb]
  · exact h
  · exact commandEffect_inv i h
  · exact h

/-- A run keeps the parameters it began with, and the invariants. -/
theorem Reachable.cfg_eq_and_inv {c : Config} {s : State} (h : Reachable c s) : s.cfg = c ∧ s.Inv := by
  induction h with
  | powerOn => exact ⟨rfl, Block.reset_inv c⟩
  | arrive s a _ ih => exact ih
  | step s t _ hst ih =>
    obtain ⟨hcfg, hinv⟩ := ih
    exact ⟨(step_cfg_blk hst).1.trans hcfg, stepKeepsInvariants s t hinv hst⟩

/-- The mailbox's code is never 3 (I7 of R48). -/
theorem ExtEvent.bits_ne_three (e : ExtEvent) : e.bits ≠ 3#2 := by cases e <;> decide

/-- The receive FSM state's code is never 3 (I7 of R48). -/
theorem RxState.bits_ne_three (x : RxState) : x.bits ≠ 3#2 := by cases x <;> decide

/-- Settles O60: I1 to I6 along the run, I7 by the types of the two fields. -/
theorem reachableStatesKeepInvariants : Obligations.ReachableStatesKeepInvariants := by
  intro c s h
  obtain ⟨rfl, harmed, hcur, hretry, hq, hstage, hrx, -⟩ := h.cfg_eq_and_inv
  exact ⟨harmed, hcur, hretry, hq, hstage, hrx, s.blk.extEvt.bits_ne_three, s.blk.rxState.bits_ne_three⟩

/-- Settles O58: power-on is the reset record, with the default parameters among all others. -/
theorem invariantsAtPowerOn : Obligations.InvariantsAtPowerOn :=
  ⟨Block.reset_inv, Block.reset_inv (Config.standard 0)⟩

end Sys2Proof.Machine
end

section
/-! Proofs of the obligations of 10_state.md about the registers: the fields of STATUS (R40), of ERR and the three length
registers (R41, R42), and of the configuration registers (R43). A register word is a concatenation of its fields, so a
slice of it skips the fields below, drops the fields above, and is then the field itself. Where the last append of a word
stands at the width 32, its rule is given the widths of the fields as the sum that the appends inside it have. -/

namespace Sys2Proof.Machine

/-! STATUS -/

/-- The one-bit fields of STATUS (R40). -/
theorem Block.status_flags (c : Config) (S : Block) :
    (S.status c).getLsbD 0 = S.txState.bits.getLsbD 0 ∧
    (S.status c).getLsbD 3 = S.tmrArmed ∧
    (S.status c).getLsbD 4 = S.tmrRaised ∧
    (S.status c).getLsbD 7 = S.q.isEmpty ∧
    (S.status c).getLsbD 8 = S.qFull c ∧
    (S.status c).getLsbD 9 = S.stageOvf ∧
    (S.status c).getLsbD 10 = S.cur.isSome ∧
    (S.status c).getLsbD 11 = S.curAckExpected := by
  simp only [Block.status, BitVec.getLsbD_append,
    BitVec.getLsbD_append (n := 8 + 8 + 4 + 1 + 1 + 1 + 1 + 1 + 2 + 1 + 1 + 2) (m := 1)]
  simp

/-- The wider fields of STATUS (R40). -/
theorem Block.status_codes (c : Config) (S : Block) :
    (S.status c).extractLsb' 1 2 = S.extEvt.bits ∧
    (S.status c).extractLsb' 5 2 = S.rxState.bits ∧
    (S.status c).extractLsb' 12 4 = 0#4 ∧
    (S.status c).extractLsb' 16 8 = S.retryCnt ∧
    (S.status c).extractLsb' 24 8 = BitVec.ofNat 8 S.q.length := by
  simp (disch := decide) only [Block.status, BitVec.extractLsb'_append_eq_of_add_le,
    BitVec.extractLsb'_append_eq_of_le,
    BitVec.extractLsb'_append_eq_of_le (v := 8 + 8 + 4 + 1 + 1 + 1 + 1 + 1 + 2 + 1 + 1 + 2) (w := 1)]
  simp

/-- The transmit FSM state's code as a flag (R23). -/
theorem TxState.bits_getLsbD_zero (x : TxState) : x.bits.getLsbD 0 = decide (x = .transmit) := by
  cases x <;> rfl

/-- The mailbox's code (R24). -/
theorem ExtEvent.bits_eq (e : ExtEvent) : e.bits = match e with | .none => 0#2 | .ack => 1#2 | .nack => 2#2 := by
  cases e <;> rfl

/-- The receive FSM state's code (R35). -/
theorem RxState.bits_eq (x : RxState) : x.bits = match x with | .hunt => 0#2 | .data => 1#2 | .esc => 2#2 := by
  cases x <;> rfl

/-- Settles O17: Q_COUNT's eight bits hold every length up to P_QUEUE_DEPTH, which is at most 255 (R8). -/
theorem statusFields : Obligations.StatusFields := by
  intro c S
  obtain ⟨tx, armed, raised, empty, full, ovf, valid, ack⟩ := S.status_flags c
  obtain ⟨evt, rx, reserved, retry, count⟩ := S.status_codes c
  have hdepth := c.queueDepth_le
  refine ⟨tx.trans S.txState.bits_getLsbD_zero, evt.trans S.extEvt.bits_eq, armed, raised, rx.trans S.rxState.bits_eq,
    empty.trans ?_, full, ovf, valid.trans ?_, ack, reserved, retry, fun hq => ?_⟩
  · cases S.q <;> rfl
  · cases S.cur <;> rfl
  · calc ((S.status c).extractLsb' 24 8).toNat = S.q.length % 2 ^ 8 := by rw [count, BitVec.toNat_ofNat]
      _ = S.q.length := Nat.mod_eq_of_lt (by omega)

/-! ERR, STAGE_INFO, RX_INFO and CUR_INFO -/

theorem stageInfoReg_toNat (S : Block) : (stageInfoReg S).toNat = S.stage.length % 2 ^ 16 := by
  rw [stageInfoReg, BitVec.toNat_append (m := 16)]
  simp

theorem rxInfoReg_toNat (S : Block) : (rxInfoReg S).toNat = S.rxBuf.length % 2 ^ 24 := by
  rw [rxInfoReg, BitVec.toNat_append (m := 8)]
  simp

/-- CUR_INFO without a current request (R42). -/
theorem curInfoReg_of_none {S : Block} (h : S.cur = none) : curInfoReg S = 0 := by
  simp only [curInfoReg, h]

/-- The fields of CUR_INFO with a current request (R42). -/
theorem curInfoReg_fields {S : Block} {r : Request} (h : S.cur = some r) :
    (curInfoReg S).extractLsb' 0 8 = r.type ∧
    (curInfoReg S).extractLsb' 8 16 = BitVec.ofNat 16 r.payload.length ∧
    (curInfoReg S).extractLsb' 24 8 = 0#8 := by
  simp (disch := decide) only [curInfoReg, h, BitVec.extractLsb'_append_eq_of_add_le,
    BitVec.extractLsb'_append_eq_of_add_le (v := 8 + 16) (w := 8), BitVec.extractLsb'_append_eq_of_le,
    BitVec.extractLsb'_append_eq_of_le (v := 8 + 16) (w := 8)]
  simp

/-- Settles O18: the lengths fit their fields because P_MAX_PAYLOAD is at most 65535 (R7). -/
theorem errAndInfoFields : Obligations.ErrAndInfoFields := by
  refine ⟨fun c S => ?_, rfl, fun c S hstage => ?_, fun c S hrx => ?_, fun c S => curInfoReg_of_none,
    fun c S r hcur hlen => ?_⟩
  · exact BitVec.toNat_setWidth_of_le (by decide)
  · have hmax := c.maxPayload_le
    exact (stageInfoReg_toNat S).trans (Nat.mod_eq_of_lt (by omega))
  · have hmax := c.maxPayload_le
    exact (rxInfoReg_toNat S).trans (Nat.mod_eq_of_lt (by omega))
  · have hmax := c.maxPayload_le
    obtain ⟨htype, hlength, hzero⟩ := curInfoReg_fields hcur
    refine ⟨htype, ?_, hzero⟩
    calc ((curInfoReg S).extractLsb' 8 16).toNat = r.payload.length % 2 ^ 16 := by rw [hlength, BitVec.toNat_ofNat]
      _ = r.payload.length := Nat.mod_eq_of_lt (by omega)

/-! The configuration registers -/

/-- The wider fields of CFG0 (R43). -/
theorem cfg0Reg_codes (c : Config) :
    (cfg0Reg c).extractLsb' 0 8 = BitVec.ofNat 8 c.maxRetries ∧
    (cfg0Reg c).extractLsb' 8 8 = BitVec.ofNat 8 c.queueDepth ∧
    (cfg0Reg c).extractLsb' 19 13 = 0#13 := by
  simp (disch := decide) only [cfg0Reg, BitVec.extractLsb'_append_eq_of_add_le,
    BitVec.extractLsb'_append_eq_of_add_le (v := 13 + 1 + 1 + 1 + 8) (w := 8), BitVec.extractLsb'_append_eq_of_le,
    BitVec.extractLsb'_append_eq_of_le (v := 13 + 1 + 1 + 1 + 8) (w := 8)]
  simp

/-- The one-bit fields of CFG0 (R43). -/
theorem cfg0Reg_flags (c : Config) :
    (cfg0Reg c).getLsbD 16 = (policyBit c.rxErrPolicy).getLsbD 0 ∧
    (cfg0Reg c).getLsbD 17 = c.crcRefin ∧
    (cfg0Reg c).getLsbD 18 = c.crcRefout := by
  simp only [cfg0Reg, BitVec.getLsbD_append, BitVec.getLsbD_append (n := 13 + 1 + 1 + 1 + 8) (m := 8)]
  simp

/-- The encoding of the receive error policy as a flag (R10). -/
theorem policyBit_getLsbD_zero (p : RxErrPolicy) : (policyBit p).getLsbD 0 = decide (p = .nack) := by
  cases p <;> rfl

theorem cfg1Reg_toNat (c : Config) : (cfg1Reg c).toNat = c.ackTimeout := by
  have htimeout := c.ackTimeout_lt
  exact (BitVec.toNat_ofNat ..).trans (Nat.mod_eq_of_lt (by omega))

/-- The fields of CFG2 (R43). -/
theorem cfg2Reg_fields (c : Config) :
    (cfg2Reg c).extractLsb' 0 16 = BitVec.ofNat 16 c.maxPayload ∧ (cfg2Reg c).extractLsb' 16 16 = 0#16 :=
  ⟨BitVec.extractLsb'_append_eq_right, BitVec.extractLsb'_append_eq_left⟩

/-- The fields of CFG3 (R43). -/
theorem cfg3Reg_fields (c : Config) :
    (cfg3Reg c).extractLsb' 0 8 = c.typeAck ∧
    (cfg3Reg c).extractLsb' 8 8 = c.typeNack ∧
    (cfg3Reg c).extractLsb' 16 8 = c.typeDebug ∧
    (cfg3Reg c).extractLsb' 24 8 = 0#8 := by
  simp (disch := decide) only [cfg3Reg, BitVec.extractLsb'_append_eq_of_add_le,
    BitVec.extractLsb'_append_eq_of_add_le (v := 8 + 8 + 8) (w := 8), BitVec.extractLsb'_append_eq_of_le,
    BitVec.extractLsb'_append_eq_of_le (v := 8 + 8 + 8) (w := 8)]
  simp

/-- The numbers of CFG0 and CFG2 fit their fields by the bounds of R5, R7 and R8. -/
theorem configRegs_numbers (c : Config) :
    ((cfg0Reg c).extractLsb' 0 8).toNat = c.maxRetries ∧
    ((cfg0Reg c).extractLsb' 8 8).toNat = c.queueDepth ∧
    ((cfg2Reg c).extractLsb' 0 16).toNat = c.maxPayload := by
  have hretries := c.maxRetries_le
  have hdepth := c.queueDepth_le
  have hmax := c.maxPayload_le
  obtain ⟨retries, depth, -⟩ := cfg0Reg_codes c
  obtain ⟨max, -⟩ := cfg2Reg_fields c
  rw [retries, depth, max]
  simp only [BitVec.toNat_ofNat]
  omega

/-- Settles O19: the fields by the layouts above, constancy by the law of steps, and CRC_RAW by CRC_INIT's effect. -/
theorem configurationFields : Obligations.ConfigurationFields := by
  refine ⟨fun c S => ?_, fun s t h => (step_cfg_blk h).1, fun s => ⟨_, exec_eq_commit .crcInit s, rfl⟩⟩
  obtain ⟨retries, depth, payload⟩ := configRegs_numbers c
  obtain ⟨-, -, cfg0Zero⟩ := cfg0Reg_codes c
  obtain ⟨policy, refin, refout⟩ := cfg0Reg_flags c
  obtain ⟨-, cfg2Zero⟩ := cfg2Reg_fields c
  exact ⟨retries, depth, policy.trans (policyBit_getLsbD_zero _), refin, refout, cfg0Zero, cfg1Reg_toNat c, payload,
    cfg2Zero, cfg3Reg_fields c⟩

end Sys2Proof.Machine
end

section
/-! Proofs of the obligations of 10_state.md about the reset values (R49) and about the ERR set (R38): what each command
does to ERR is said once, and the bits follow. -/

namespace Sys2Proof.Machine

/-- Settles O21: both resets write the record of R49. -/
theorem resetState : Obligations.ResetState := ⟨fun _ => rfl, rfl, fun _ => rfl⟩

/-- How ERR changes from `S` to `T` under a command that neither resets nor clears: not at all, or by one raise. -/
def ErrKeptOrRaised (raised : Err → Prop) (S T : Block) : Prop :=
  T.err = S.err ∨ ∃ e, raised e ∧ T.err = (S.raise e).err

/-- The mailbox write raises the overrun only (R150). -/
theorem Block.postExt_errKeptOrRaised {raised : Err → Prop} (h : raised .extEventOverrun) (ev : ExtEvent) (S : Block) :
    ErrKeptOrRaised raised S (S.postExt ev).2 := by
  rw [ErrKeptOrRaised, Block.postExt_err]
  split
  · exact .inr ⟨_, h, rfl⟩
  · exact .inl rfl

/-- TICK raises no error (R100). -/
theorem tickOp_err (S : Block) : (tickOp S).err = S.err := by
  rcases tickOp_cases S with ⟨-, -, ht⟩ | ⟨-, ht⟩ <;> rw [ht]

/-- STAGE_BYTE raises the stage overflow only (R109). -/
theorem stageByteOp_errKeptOrRaised {raised : Err → Prop} (h : raised .stageOverflow) (c : Config) (b : Byte)
    (S : Block) : ErrKeptOrRaised raised S (stageByteOp c b S) := by
  rcases stageByteOp_cases c b S with ⟨-, hb⟩ | ⟨-, hb⟩ <;> rw [hb]
  · exact .inr ⟨_, h, rfl⟩
  · exact .inl rfl

/-- `enqueue` raises the error it answers (R110). -/
theorem Block.enqueue_errKeptOrRaised {raised : Err → Prop} (hstage : raised .stageOverflow) (hqueue : raised .queueFull)
    (c : Config) (t : Byte) (a : Bool) (S : Block) : ErrKeptOrRaised raised S (Block.enqueue c t a S) := by
  rcases Block.enqueue_cases c t a S with ⟨-, he⟩ | ⟨-, -, he⟩ | ⟨-, -, he⟩ <;> rw [he]
  · exact .inr ⟨_, hstage, rfl⟩
  · exact .inr ⟨_, hqueue, rfl⟩
  · exact .inl rfl

/-- RUN raises the exhausted retry budget only (R149). -/
theorem runOp_errKeptOrRaised (c : Config) (S : Block) :
    ErrKeptOrRaised (· = .retryBudgetExhausted) S (runOp c S).1 := by
  rcases runOp_cases c S with ⟨-, -, hr⟩ | ⟨r, rest, -, -, -, hr⟩ | ⟨r, rest, -, -, -, hr⟩ | ⟨r, -, -, -, hr⟩ |
    ⟨r, -, -, -, -, -, hr⟩ | ⟨r, -, -, -, -, -, hr⟩ | ⟨-, -, -, hr⟩ <;> rw [hr]
  case inr.inr.inr.inr.inr.inl => exact .inr ⟨_, rfl, rfl⟩
  all_goals exact .inl rfl

/-- The errors that RX_BYTE raises (R164 to R167, and R150 for the overrun). -/
def raisedByRx (e : Err) : Prop :=
  e = .checksumMismatch ∨ e = .lengthMismatch ∨ e = .extEventOverrun ∨ e = .frameAborted

/-- The close of a frame raises one of RX_BYTE's errors or none. -/
theorem endOfFrame_errKeptOrRaised (c : Config) (f : List Byte) (S : Block) :
    ErrKeptOrRaised raisedByRx S (endOfFrame c f S).blk := by
  have hoverrun : raisedByRx .extEventOverrun := .inr (.inr (.inl rfl))
  rcases endOfFrame_cases c f S with ⟨-, he⟩ | ⟨-, he⟩ | ⟨p, -, he⟩ | ⟨p, -, he⟩ | ⟨t, p, -, -, -, he⟩ <;> rw [he]
  · exact .inr ⟨_, .inr (.inl rfl), rfl⟩
  · exact .inr ⟨_, .inl rfl, rfl⟩
  · exact S.postExt_errKeptOrRaised hoverrun .ack
  · exact S.postExt_errKeptOrRaised hoverrun .nack
  · exact .inl rfl

/-- RX_BYTE raises one of its errors or none. -/
theorem rxByteOp_errKeptOrRaised (c : Config) (b : Byte) (S : Block) :
    ErrKeptOrRaised raisedByRx S (rxByteOp c b S).1 := by
  rcases rxByteOp_cases c b S with ⟨-, -, hr⟩ | ⟨-, -, hr⟩ | ⟨-, -, -, hr⟩ | ⟨-, -, -, hr⟩ | ⟨-, -, -, hr⟩ |
    ⟨-, -, hr⟩ | ⟨x, -, -, hr⟩ | ⟨-, -, hr⟩ <;> rw [hr]
  case inr.inr.inr.inl => exact endOfFrame_errKeptOrRaised c S.rxBuf S
  case inr.inr.inr.inr.inr.inl => exact .inr ⟨.frameAborted, .inr (.inr (.inr rfl)), rfl⟩
  case inr.inr.inr.inr.inr.inr.inr => exact .inr ⟨.lengthMismatch, .inr (.inl rfl), rfl⟩
  all_goals exact .inl rfl

/-- The column "raised by" of R173 names RX_BYTE for every error it raises. -/
theorem raisesBit_rxByte {e : Err} (h : raisedByRx e) (b : Byte) : raisesBit e.bit (.rxByte b) := by
  rcases h with rfl | rfl | rfl | rfl
  · exact ⟨b, rfl⟩
  · exact ⟨b, rfl⟩
  · exact .inr (.inr ⟨b, rfl⟩)
  · exact ⟨b, rfl⟩

/-- The set of errors that may be raised can be widened. -/
theorem ErrKeptOrRaised.mono {raised raised' : Err → Prop} {S T : Block} (h : ErrKeptOrRaised raised S T)
    (himp : ∀ e, raised e → raised' e) : ErrKeptOrRaised raised' S T := by
  obtain he | ⟨e, hr, he⟩ := h
  · exact .inl he
  · exact .inr ⟨e, himp e hr, he⟩

/-- What a legal command does to ERR (R38, R174): RESET empties it, CLR_ERR clears its mask, and any other command keeps it
or raises one error that R173 names it for. -/
theorem commandEffect_err (c : Config) (S : Block) (i : Instr) :
    (i = .reset ∧ (commandEffect c S i).1.err = 0) ∨
    (∃ m, i = .clrErr m ∧ (commandEffect c S i).1.err = S.err &&& ~~~m) ∨
    ErrKeptOrRaised (fun e => raisesBit e.bit i) S (commandEffect c S i).1 := by
  cases i with
  | reset => exact .inl ⟨rfl, rfl⟩
  | clrErr m => exact .inr (.inl ⟨m, rfl, rfl⟩)
  | run =>
    refine .inr (.inr ((runOp_errKeptOrRaised c S).mono ?_))
    rintro _ rfl
    rfl
  | setExtEventAck => exact .inr (.inr (S.postExt_errKeptOrRaised (.inl rfl) .ack))
  | setExtEventNack => exact .inr (.inr (S.postExt_errKeptOrRaised (.inr (.inl rfl)) .nack))
  | stageByte b => exact .inr (.inr (stageByteOp_errKeptOrRaised (.inl ⟨b, rfl⟩) c b S))
  | enqueue t a =>
    exact .inr (.inr (Block.enqueue_errKeptOrRaised (.inr (.inl ⟨t, a, rfl⟩)) (.inl ⟨t, a, rfl⟩) c t a S))
  | sendDebug a =>
    exact .inr (.inr (Block.enqueue_errKeptOrRaised (.inr (.inr ⟨a, rfl⟩)) (.inr ⟨a, rfl⟩) c c.typeDebug a S))
  | rxByte b => exact .inr (.inr ((rxByteOp_errKeptOrRaised c b S).mono fun _ he => raisesBit_rxByte he b))
  | nop => exact .inr (.inr (.inl rfl))
  | init => exact .inr (.inr (.inl rfl))
  | tick => exact .inr (.inr (.inl (tickOp_err S)))
  | stageClear => exact .inr (.inr (.inl rfl))
  | crcInit => exact .inr (.inr (.inl rfl))
  | crcByte b => exact .inr (.inr (.inl rfl))
  | crcRead => exact .inr (.inr (.inl rfl))

/-- Settles O55: bit by bit from what the command does to the whole set. -/
theorem errBitsAreSticky : Obligations.ErrBitsAreSticky := by
  intro i s t n hn h
  obtain rfl := eq_commit_of_exec h
  rw [State.commit_blk]
  rcases commandEffect_err s.cfg s.blk i with ⟨hi, he⟩ | ⟨m, hi, he⟩ | he | ⟨e, hraises, he⟩ <;> rw [he]
  case inl => exact ⟨fun _ _ => .inl hi, fun _ hset => by simp at hset⟩
  case inr.inl =>
    rw [BitVec.getLsbD_and, BitVec.getLsbD_not]
    refine ⟨fun hset hclr => .inr ⟨m, hi, ?_⟩, fun hclr hset => ?_⟩
    · simpa [hset, hn] using hclr
    · simp [hclr] at hset
  case inr.inr.inl => exact ⟨fun hset hclr => by simp [hset] at hclr, fun hclr hset => by simp [hclr] at hset⟩
  case inr.inr.inr =>
    rw [Block.raise_err_getLsbD e s.blk n hn]
    refine ⟨fun hset hclr => by simp [hset] at hclr, fun hclr hset => ?_⟩
    have hbit : n = e.bit := by simpa [hclr] using hset
    exact hbit ▸ hraises

end Sys2Proof.Machine
end

section
/-! Proofs of the obligations of 20_memory.md about the register port: what one access does at a register's address, which
accesses are refused (R55), that reading twice returns one value twice (R57), and what a write does (R54). -/

namespace Sys2Proof.Machine

/-! One access -/

/-- The oldest access that waits is the one served (R56). -/
theorem step_of_bus_cons {s : State} {a : Access} {rest : List Access} (h : s.bus = a :: rest) :
    step s = serve a { s with bus := rest } := by
  rw [step, serveNext, h]

/-- A read at a register's address answers that register (R53). -/
theorem busRead_offset (r : Reg) (s : State) :
    busRead 4 (s.cfg.base + r.offset) s = .next { s with reads := s.reads ++ [readReg s.cfg s.blk r] } := by
  rw [busRead, selectReg_offset]

/-- A write at a register's address runs its word at CMD and does nothing elsewhere (R54). -/
theorem busWrite_offset (r : Reg) (w : Word) (s : State) :
    busWrite 4 (s.cfg.base + r.offset) w s = if r = .cmd then runWord w s else .next s := by
  rw [busWrite, selectReg_offset]
  by_cases hr : r = .cmd
  · subst hr
    rfl
  · rw [if_neg hr]
    simp only

/-- The step that serves a register read. -/
theorem step_read {s : State} {r : Reg} {rest : List Access} (h : s.bus = .read 4 (s.cfg.base + r.offset) :: rest) :
    step s = .next { s with bus := rest, reads := s.reads ++ [readReg s.cfg s.blk r] } :=
  (step_of_bus_cons h).trans (busRead_offset r { s with bus := rest })

/-- The step that serves a register write. -/
theorem step_write {s : State} {r : Reg} {w : Word} {rest : List Access}
    (h : s.bus = .write 4 (s.cfg.base + r.offset) w :: rest) :
    step s = if r = .cmd then runWord w { s with bus := rest } else .next { s with bus := rest } :=
  (step_of_bus_cons h).trans (busWrite_offset r w { s with bus := rest })

/-! Refusals -/

/-- No word written to CMD is refused: an illegal one has an effect of its own (R91). -/
theorem runWord_ne_refused (w : Word) (s : State) (e : Refusal) : runWord w s ≠ .refused e := by
  rcases runWord_cases w s with ⟨i, -, h⟩ | ⟨_, -, h⟩ <;> simp [h]

/-- No register is selected exactly when the access is not 32 bits wide at a register's address (R55). -/
theorem selectReg_error_iff (c : Config) (size addr : Nat) :
    (∃ e, selectReg c size addr = .error e) ↔ ¬ (size = 4 ∧ ∃ r ∈ Reg.all, addr = c.base + r.offset) := by
  rcases selectReg_cases c size addr with ⟨r, hsize, haddr, h⟩ | ⟨hbad, h⟩
  · exact iff_of_false (by simp [h]) (not_not_intro ⟨hsize, r, r.mem_all, haddr⟩)
  · refine iff_of_true h ?_
    rintro ⟨hsize, r, hr, haddr⟩
    exact hbad.elim (· hsize) (· r hr haddr)

/-- A read is refused exactly when it selects no register. -/
theorem busRead_refused_iff (size addr : Nat) (s : State) :
    (∃ e, busRead size addr s = .refused e) ↔ ∃ e, selectReg s.cfg size addr = .error e := by
  unfold busRead
  cases selectReg s.cfg size addr with
  | ok r => simp
  | error e => simp

/-- A write is refused exactly when it selects no register: a write to CMD is answered, whatever its word. -/
theorem busWrite_refused_iff (size addr : Nat) (w : Word) (s : State) :
    (∃ e, busWrite size addr w s = .refused e) ↔ ∃ e, selectReg s.cfg size addr = .error e := by
  unfold busWrite
  cases selectReg s.cfg size addr with
  | ok r => cases r <;> simp [runWord_ne_refused]
  | error e => simp

/-- The port refuses an access exactly when it is not a legal one (R55). -/
theorem serve_refused_iff (a : Access) (s : State) : (∃ e, serve a s = .refused e) ↔ ¬ a.Legal s.cfg := by
  cases a with
  | read size addr => exact (busRead_refused_iff size addr s).trans (selectReg_error_iff s.cfg size addr)
  | write size addr w => exact (busWrite_refused_iff size addr w s).trans (selectReg_error_iff s.cfg size addr)

/-! The obligations -/

/-- Settles O11: an empty port refuses nothing, and otherwise the oldest access decides. -/
theorem stepRefusesOnlyIllegalAccesses : Obligations.StepRefusesOnlyIllegalAccesses := by
  intro s
  cases hb : s.bus with
  | nil => simp [step, serveNext, hb]
  | cons a rest =>
    rw [step_of_bus_cons hb, serve_refused_iff]
    simp

/-- Settles O12: the second read finds the parameters and the block of the first. -/
theorem registerReadsAreIdempotent : Obligations.RegisterReadsAreIdempotent := by
  intro s r rest h
  refine ⟨_, readReg s.cfg s.blk r, step_read h, rfl, ?_⟩
  rw [step_read (r := r) (rest := rest) rfl]
  simp

/-- Settles O14: by whether the register is CMD. -/
theorem portWrites : Obligations.PortWrites := by
  intro s r w rest h
  rw [step_write h]
  exact ⟨fun hr => if_neg hr, fun hr => if_pos hr⟩

end Sys2Proof.Machine
end

section
/-! Proofs of the obligations of 30_encoding.md about the decoder. A word is its three fields (R71), so a row of the table
(R74) is matched field by field; no word matches two rows, so the decoder's answer is the row a word matches, and an
illegal word (R75) is one that matches none. -/

namespace Sys2Proof

open Sys2Proof.Machine

/-! The fields of a word -/

/-- Two words with the same OP, A and B are one word (R71). -/
theorem eq_iff_fields (x y : Word) :
    x = y ↔ opField x = opField y ∧ byteOperand x = byteOperand y ∧ bField x = bField y := by
  refine ⟨fun h => by simp [h], fun ⟨hop, ha, hb⟩ => BitVec.eq_of_toNat_eq ?_⟩
  have hop' := congrArg BitVec.toNat hop
  have ha' := congrArg BitVec.toNat ha
  have hb' := congrArg BitVec.toNat hb
  simp only [opField, byteOperand, bField, BitVec.extractLsb'_toNat, Nat.shiftRight_eq_div_pow] at hop' ha' hb'
  omega

@[simp] theorem opField_and (x y : Word) : opField (x &&& y) = opField x &&& opField y := BitVec.extractLsb'_and

@[simp] theorem byteOperand_and (x y : Word) : byteOperand (x &&& y) = byteOperand x &&& byteOperand y :=
  BitVec.extractLsb'_and

@[simp] theorem bField_and (x y : Word) : bField (x &&& y) = bField x &&& bField y := BitVec.extractLsb'_and

@[simp] theorem bField_or (x y : Word) : bField (x ||| y) = bField x ||| bField y := BitVec.extractLsb'_or

@[simp] theorem opField_zero : opField 0#32 = 0#8 := rfl
@[simp] theorem byteOperand_zero : byteOperand 0#32 = 0#8 := rfl
@[simp] theorem bField_zero : bField 0#32 = 0#16 := rfl

/-! The table -/

theorem Row.mem_all (r : Row) : r ∈ Row.all := by cases r <;> decide

theorem Row.hits_iff (r : Row) (w : Word) : r.hits w = true ↔ w &&& r.mask = r.pat := beq_iff_eq

/-- Two rows differ in a bit that both of their masks test (R77). -/
theorem Row.separated : ∀ r ∈ Row.all, ∀ r' ∈ Row.all, r.pat &&& r'.mask = r'.pat &&& r.mask → r = r' := by decide

/-- No word matches two rows (R77). -/
theorem Row.eq_of_match {w : Word} {r r' : Row} (h : w &&& r.mask = r.pat) (h' : w &&& r'.mask = r'.pat) : r = r' := by
  refine Row.separated r r.mem_all r' r'.mem_all ?_
  calc r.pat &&& r'.mask = w &&& r.mask &&& r'.mask := by rw [h]
    _ = w &&& r'.mask &&& r.mask := by rw [BitVec.and_assoc, BitVec.and_comm r.mask, BitVec.and_assoc]
    _ = r'.pat &&& r.mask := by rw [h']

/-! The decoder -/

/-- A word that matches a row is the command of that row (R77). -/
theorem decode_of_match {w : Word} {r : Row} (h : w &&& r.mask = r.pat) : decode w = .ok (r.build w) := by
  unfold decode
  cases hfind : Row.all.find? (fun r => r.hits w) with
  | none => exact absurd ((r.hits_iff w).mpr h) (List.find?_eq_none.mp hfind r r.mem_all)
  | some r' =>
    have h' : w &&& r'.mask = r'.pat := (r'.hits_iff w).mp (List.find?_some (p := fun r : Row => r.hits w) hfind)
    rw [Row.eq_of_match h h']

/-- A word is illegal exactly when it matches no row (R77). -/
theorem decode_error_iff (w : Word) : (∃ e, decode w = .error e) ↔ ∀ r ∈ Row.all, w &&& r.mask ≠ r.pat := by
  constructor
  · rintro ⟨e, he⟩ r - hr
    rw [decode_of_match hr] at he
    cases he
  · intro h
    have hfind : Row.all.find? (fun r => r.hits w) = none :=
      List.find?_eq_none.mpr fun r hr hhit => h r hr ((r.hits_iff w).mp hhit)
    exact ⟨illegalReason w, by rw [decode, hfind]⟩

/-- Settles O3: the columns by computation, the rest from the row a word matches. -/
theorem commandTable : Obligations.CommandTable :=
  ⟨rfl, fun _ => rfl, fun _ _ _ => decode_of_match, fun w => (decode_error_iff w).mpr, fun _ _ _ _ _ => Row.eq_of_match⟩

/-- Settles O5: each legal example matches its row, and the four illegal words match none. -/
theorem encodingExamples : Obligations.EncodingExamples := by
  have illegal : ∀ {w : Word}, (∀ r ∈ Row.all, w &&& r.mask ≠ r.pat) → (decode w).toOption = none := by
    intro w h
    obtain ⟨e, he⟩ := (decode_error_iff w).mpr h
    rw [he]
    rfl
  exact ⟨rfl, rfl, rfl, rfl, rfl, decode_of_match (r := .enqueue) rfl, decode_of_match (r := .stageByte) rfl,
    decode_of_match (r := .rxByte) rfl, decode_of_match (r := .clrErr) rfl, decode_of_match (r := .setExtEventNack) rfl,
    illegal (by decide), illegal (by decide), illegal (by decide), illegal (by decide)⟩

/-! The three cases of R75 -/

/-- Every row tests the whole of OP. -/
theorem Row.opField_mask (r : Row) : opField r.mask = BitVec.allOnes 8 := by cases r <;> rfl

/-- A word that matches a row has its OP. -/
theorem Row.opField_of_match {w : Word} {r : Row} (h : w &&& r.mask = r.pat) : opField w = opField r.pat := by
  rw [← h, opField_and, r.opField_mask, BitVec.and_allOnes]

/-- The legal values of OP are 0x00 to 0x0E. -/
theorem Row.opField_pat_lt (r : Row) : (opField r.pat).toNat < 0x0F := by cases r <;> decide

theorem Row.exists_opField_pat_eq {op : Byte} (h : op.toNat < 0x0F) : ∃ r ∈ Row.all, opField r.pat = op := by
  revert op
  decide

/-- OP alone names the row, but for the two rows of SET_EXT_EVENT. -/
theorem Row.eq_of_opField_pat : ∀ r ∈ Row.all, r ≠ .setExtEventAck → r ≠ .setExtEventNack →
    ∀ r' ∈ Row.all, opField r.pat = opField r'.pat → r = r' := by decide

/-- The rows with OP 0x05 are those of SET_EXT_EVENT. -/
theorem Row.opField_pat_eq_five_iff (r : Row) :
    opField r.pat = 0x05 ↔ r = .setExtEventAck ∨ r = .setExtEventNack := by cases r <;> decide

/-- No row wants a bit of B set. -/
theorem Row.bField_pat (r : Row) : bField r.pat = 0 := by cases r <;> rfl

/-- No row but those of SET_EXT_EVENT wants a bit of A set. -/
theorem Row.byteOperand_pat : ∀ r ∈ Row.all, r ≠ .setExtEventAck → r ≠ .setExtEventNack →
    byteOperand r.pat = 0 := by decide

/-- The must-be-zero positions of a row are those of A and B that its mask tests. -/
theorem Row.reserved_fields (r : Row) :
    opField (r.mask &&& 0x00FFFFFF) = 0 ∧ byteOperand (r.mask &&& 0x00FFFFFF) = byteOperand r.mask ∧
    bField (r.mask &&& 0x00FFFFFF) = bField r.mask := by cases r <;> decide

/-- A row other than those of SET_EXT_EVENT is matched by its OP and zeros at the must-be-zero positions. -/
theorem Row.match_iff {r : Row} (hack : r ≠ .setExtEventAck) (hnack : r ≠ .setExtEventNack) (w : Word) :
    w &&& r.mask = r.pat ↔ opField r.pat = opField w ∧ w &&& (r.mask &&& 0x00FFFFFF) = 0 := by
  obtain ⟨hzeroOp, hmaskA, hmaskB⟩ := r.reserved_fields
  rw [eq_iff_fields, eq_iff_fields (w &&& _) 0, opField_and, opField_and, byteOperand_and, byteOperand_and, bField_and,
    bField_and, hzeroOp, hmaskA, hmaskB, r.opField_mask, BitVec.and_allOnes, r.bField_pat,
    Row.byteOperand_pat r r.mem_all hack hnack, eq_comm]
  simp

/-- A row of SET_EXT_EVENT is matched by OP 0x05, its event in A and nothing in B. -/
theorem Row.setExtEvent_match_iff {r : Row} (h : r = .setExtEventAck ∨ r = .setExtEventNack) (w : Word) :
    w &&& r.mask = r.pat ↔ opField w = 0x05 ∧ byteOperand w = byteOperand r.pat ∧ bField w = 0 := by
  have hmask : r.mask = BitVec.allOnes 32 := by rcases h with rfl | rfl <;> rfl
  rw [hmask, BitVec.and_allOnes, eq_iff_fields, r.opField_pat_eq_five_iff.mpr h, r.bField_pat]

/-- A word with an OP of no row is illegal (R75 (a)). -/
theorem decode_error_of_reserved_opField {w : Word} (h : 0x0F ≤ (opField w).toNat) : ∃ e, decode w = .error e := by
  refine (decode_error_iff w).mpr fun r _ hr => ?_
  rw [Row.opField_of_match hr] at h
  exact absurd r.opField_pat_lt (Nat.not_lt_of_le h)

/-- A word with the OP of a row other than those of SET_EXT_EVENT is illegal for its must-be-zero bits only (R75 (b)). -/
theorem decode_error_iff_of_opField {w : Word} {r : Row} (hack : r ≠ .setExtEventAck) (hnack : r ≠ .setExtEventNack)
    (hop : opField r.pat = opField w) : (∃ e, decode w = .error e) ↔ w &&& (r.mask &&& 0x00FFFFFF) ≠ 0 := by
  rw [decode_error_iff]
  constructor
  · intro hno hzero
    exact hno r r.mem_all ((Row.match_iff hack hnack w).mpr ⟨hop, hzero⟩)
  · intro hbits r' _ hr'
    obtain rfl := Row.eq_of_opField_pat r r.mem_all hack hnack r' r'.mem_all (hop.trans (Row.opField_of_match hr'))
    obtain ⟨-, hzero⟩ := (Row.match_iff hack hnack w).mp hr'
    exact hbits hzero

/-- A word with the OP of SET_EXT_EVENT is illegal for an event other than ACK and NACK (R75 (c)) or for B (R75 (b)). -/
theorem decode_error_iff_of_setExtEvent {w : Word} (hop : opField w = 0x05) :
    (∃ e, decode w = .error e) ↔ byteOperand w ≠ 0x01 ∧ byteOperand w ≠ 0x02 ∨ bField w ≠ 0 := by
  rw [decode_error_iff]
  constructor
  · intro hno
    by_cases hB : bField w = 0
    · exact .inl ⟨fun hA => hno _ Row.setExtEventAck.mem_all ((Row.setExtEvent_match_iff (.inl rfl) w).mpr ⟨hop, hA, hB⟩),
        fun hA => hno _ Row.setExtEventNack.mem_all ((Row.setExtEvent_match_iff (.inr rfl) w).mpr ⟨hop, hA, hB⟩)⟩
    · exact .inr hB
  · intro hbad r _ hr
    have hevent := r.opField_pat_eq_five_iff.mp ((Row.opField_of_match hr).symm.trans hop)
    obtain ⟨-, hA, hB⟩ := (Row.setExtEvent_match_iff hevent w).mp hr
    obtain ⟨hack, hnack⟩ | hB' := hbad
    · rcases hevent with rfl | rfl
      · exact hack hA
      · exact hnack hA
    · exact hB' hB

/-- Which words are illegal (R75), by the row that OP names: none, one of SET_EXT_EVENT, or another. -/
theorem decode_error_iff_cases (w : Word) : (∃ e, decode w = .error e) ↔
    (0x0F ≤ (opField w).toNat ∨
     (opField w = 0x05 ∧ (byteOperand w ≠ 0x01 ∧ byteOperand w ≠ 0x02 ∨ bField w ≠ 0)) ∨
     ∃ r ∈ Row.all, r ≠ .setExtEventAck ∧ r ≠ .setExtEventNack ∧
       opField r.pat = opField w ∧ w &&& (r.mask &&& 0x00FFFFFF) ≠ 0) := by
  constructor
  · intro hill
    by_cases hlegal : (opField w).toNat < 0x0F
    · obtain ⟨r, hr, hop⟩ := Row.exists_opField_pat_eq hlegal
      by_cases hevent : r = .setExtEventAck ∨ r = .setExtEventNack
      · have hfive : opField w = 0x05 := hop.symm.trans (r.opField_pat_eq_five_iff.mpr hevent)
        exact .inr (.inl ⟨hfive, (decode_error_iff_of_setExtEvent hfive).mp hill⟩)
      · obtain ⟨hack, hnack⟩ := not_or.mp hevent
        exact .inr (.inr ⟨r, hr, hack, hnack, hop, (decode_error_iff_of_opField hack hnack hop).mp hill⟩)
    · exact .inl (Nat.le_of_not_lt hlegal)
  · rintro (hop | ⟨hop, hbad⟩ | ⟨r, -, hack, hnack, hop, hbits⟩)
    · exact decode_error_of_reserved_opField hop
    · exact (decode_error_iff_of_setExtEvent hop).mpr hbad
    · exact (decode_error_iff_of_opField hack hnack hop).mpr hbits

/-! An illegal word at the port -/

/-- An illegal word runs the illegal command, whatever its reason (R91). -/
theorem runWord_of_error {w : Word} {e : DecodeError} (h : decode w = .error e) (s : State) :
    runWord w s = .next (s.onBlock illegalOp) := by
  rw [runWord, h]
  rfl

/-- The step that serves a write of an illegal word to CMD (R91). -/
theorem step_of_error {s : State} {w : Word} {e : DecodeError} {rest : List Access} (h : decode w = .error e)
    (hbus : s.bus = .write 4 s.cfg.base w :: rest) : step s = .next ({ s with bus := rest }.onBlock illegalOp) :=
  (step_write (r := .cmd) hbus).trans (runWord_of_error h _)

/-- Settles O4: the words by the cases of R75, the effect by the step that serves one of them. -/
theorem illegalCommands : Obligations.IllegalCommands := by
  refine ⟨decode_error_iff_cases, fun s w e rest h hbus => step_of_error h hbus, ?_⟩
  obtain ⟨e, he⟩ := decode_error_of_reserved_opField (w := 0x0F000000) (by decide)
  exact ⟨_, step_of_error he rfl, rfl, rfl⟩

end Sys2Proof
end

section
/-! Proof of the obligation of 30_encoding.md about the pseudo-instructions (R81): the word of a command as a number, the
words of a byte list, and the words of a line with its operands in range. -/

namespace Sys2Proof.Machine

/-! The fields of an operand in its place -/

theorem placeByte_fields (b : Byte) : opField (placeByte b) = 0 ∧ bField (placeByte b) = 0 := by
  revert b
  decide

theorem placeAck_fields (a : Bool) : opField (placeAck a) = 0 ∧ byteOperand (placeAck a) = 0 := by
  cases a <;> decide

theorem placeByte_eq_ofNat (b : Byte) : placeByte b = BitVec.ofNat 32 (b.toNat * 2 ^ 16) := by
  apply BitVec.eq_of_toNat_eq
  simp [placeByte, zext32, Nat.shiftLeft_eq]

theorem placeAck_eq_ofNat (a : Bool) : placeAck a = BitVec.ofNat 32 a.toNat := by cases a <;> rfl

/-- A byte set in a word whose A is clear is added to it (R80). -/
theorem or_placeByte {x : Word} (h : byteOperand x = 0) (b : Byte) :
    x ||| placeByte b = x + BitVec.ofNat 32 (b.toNat * 2 ^ 16) := by
  obtain ⟨hop, hB⟩ := placeByte_fields b
  have hdisjoint : x &&& placeByte b = 0#32 := by
    rw [eq_iff_fields]
    simp [h, hop, hB]
  rw [← placeByte_eq_ofNat, BitVec.add_eq_or_of_and_eq_zero _ _ hdisjoint]

/-- A flag set in a word whose B is clear is added to it (R80). -/
theorem or_placeAck {x : Word} (h : bField x = 0) (a : Bool) : x ||| placeAck a = x + BitVec.ofNat 32 a.toNat := by
  obtain ⟨hop, hA⟩ := placeAck_fields a
  have hdisjoint : x &&& placeAck a = 0#32 := by
    rw [eq_iff_fields]
    simp [h, hop, hA]
  rw [← placeAck_eq_ofNat, BitVec.add_eq_or_of_and_eq_zero _ _ hdisjoint]

/-! The word of a command as a number (R80) -/

theorem encode_stageByte (b : Byte) : encode (.stageByte b) = BitVec.ofNat 32 (0x07000000 + b.toNat * 2 ^ 16) :=
  (or_placeByte rfl b).trans (BitVec.ofNat_add _ _).symm

theorem encode_crcByte (b : Byte) : encode (.crcByte b) = BitVec.ofNat 32 (0x0B000000 + b.toNat * 2 ^ 16) :=
  (or_placeByte rfl b).trans (BitVec.ofNat_add _ _).symm

theorem encode_rxByte (b : Byte) : encode (.rxByte b) = BitVec.ofNat 32 (0x0D000000 + b.toNat * 2 ^ 16) :=
  (or_placeByte rfl b).trans (BitVec.ofNat_add _ _).symm

theorem encode_sendDebug (a : Bool) : encode (.sendDebug a) = BitVec.ofNat 32 (0x09000000 + a.toNat) :=
  (or_placeAck rfl a).trans (BitVec.ofNat_add _ _).symm

theorem encode_enqueue (t : Byte) (a : Bool) :
    encode (.enqueue t a) = BitVec.ofNat 32 (0x08000000 + t.toNat * 2 ^ 16 + a.toNat) := by
  have hB : bField (0x08000000 ||| placeByte t) = 0 := by
    rw [bField_or, (placeByte_fields t).2]
    rfl
  rw [encode, or_placeAck hB, or_placeByte rfl, BitVec.ofNat_add _ a.toNat, BitVec.ofNat_add]
  rfl

/-! Operands in range -/

theorem byteOf_toNat {n : Nat} (h : n ≤ 0xFF) : (byteOf n).toNat = n :=
  (BitVec.toNat_ofNat ..).trans (Nat.mod_eq_of_lt (by omega))

/-- The flag of an operand that is 0 or 1. -/
theorem beq_one_toNat {a : Nat} (h : a ≤ 1) : (a == 1).toNat = a := by
  interval_cases a <;> rfl

theorem all_okByte {bs : List Nat} (h : ∀ b ∈ bs, b ≤ 0xFF) : bs.all okByte = true :=
  List.all_eq_true.mpr fun b hb => decide_eq_true (h b hb)

/-! The words of a line -/

/-- A line with its operands in range is the words of its commands (R80). -/
theorem assemble_of_wellFormed (c : Config) {a : Asm} (h : a.wellFormed = true) :
    assemble c a = .ok ((expand c a).map encode) := if_pos h

/-- The words of one byte command per byte of a list, its words being `base` with the byte in A. -/
theorem map_encode_bytes {command : Byte → Instr} {base : Nat}
    (hword : ∀ b, encode (command b) = BitVec.ofNat 32 (base + b.toNat * 2 ^ 16))
    {bs : List Nat} (hbs : ∀ b ∈ bs, b ≤ 0xFF) :
    (bs.map fun b => command (byteOf b)).map encode = bs.map fun b => BitVec.ofNat 32 (base + b * 2 ^ 16) := by
  rw [List.map_map]
  refine List.map_congr_left fun b hb => ?_
  rw [Function.comp_apply, hword, byteOf_toNat (hbs b hb)]

/-- The words of `STAGE b0, b1, ...` (R81). -/
theorem map_encode_stageCommands {bs : List Nat} (hbs : ∀ b ∈ bs, b ≤ 0xFF) :
    (stageCommands bs).map encode = 0x06000000 :: bs.map fun b => BitVec.ofNat 32 (0x07000000 + b * 2 ^ 16) :=
  congrArg (0x06000000 :: ·) (map_encode_bytes encode_stageByte hbs)

/-- Settles O7: every line is in range, and its words are those of its byte lists and of the single commands around them. -/
theorem pseudoInstructionExpansions : Obligations.PseudoInstructionExpansions := by
  intro c bs hbs
  have hall := all_okByte hbs
  have hbyte : ∀ {t}, t ≤ 0xFF → okByte t = true := decide_eq_true
  have hflag : ∀ {a}, a ≤ 1 → okAck a = true := decide_eq_true
  have hstage := map_encode_stageCommands hbs
  have hcrc := map_encode_bytes encode_crcByte hbs
  refine ⟨?stage, ?send, ?debug, ?crcBytes, ?crc, ?rxBytes, ?rxFrame, rfl, ?ticks, rfl⟩
  case stage => rw [assemble_of_wellFormed (a := .stage bs) c hall, expand, hstage]
  case send =>
    intro t a ht ha
    rw [assemble_of_wellFormed c (by simp [Asm.wellFormed, hall, hbyte ht, hflag ha]), expand, List.map_append, hstage,
      List.map_singleton, encode_enqueue, byteOf_toNat ht, beq_one_toNat ha]
  case debug =>
    intro a ha
    rw [assemble_of_wellFormed c (by simp [Asm.wellFormed, hall, hflag ha]), expand, List.map_append, hstage,
      List.map_singleton, encode_sendDebug, beq_one_toNat ha]
  case crcBytes => rw [assemble_of_wellFormed (a := .crcBytes bs) c hall, expand, hcrc]
  case crc =>
    rw [assemble_of_wellFormed (a := .crc bs) c hall, expand, List.map_append, List.map_append, hcrc]
    rfl
  case rxBytes => rw [assemble_of_wellFormed (a := .rxBytes bs) c hall, expand, map_encode_bytes encode_rxByte hbs]
  case rxFrame =>
    intro t ht _
    rw [assemble_of_wellFormed c (by simp [Asm.wellFormed, hall, hbyte ht]), expand, List.map_map]
    exact congrArg _ (List.map_congr_left fun b _ => encode_rxByte b)
  case ticks =>
    intro k
    rw [assemble_of_wellFormed c rfl, expand, List.map_replicate]
    rfl

end Sys2Proof.Machine
end

section
/-! Proofs of the obligations of 40_command_port.md: which command a write to CMD runs (R87), what a command's effect
depends on (R84), the registers after reset (R93, R94), and the housekeeping commands NOP (R88) and CLR_ERR (R90). -/

namespace Sys2Proof.Machine

/-! Which command runs, and what its effect depends on -/

/-- A legal word runs the command it decodes to (R87). -/
theorem runWord_of_ok {w : Word} {i : Instr} (h : decode w = .ok i) (s : State) : runWord w s = exec i s := by
  rw [runWord, h]

/-- The step that serves a write to CMD runs its word (R54). -/
theorem step_cmdWrite {s : State} {w : Word} {rest : List Access} (h : s.bus = .write 4 s.cfg.base w :: rest) :
    step s = runWord w { s with bus := rest } :=
  (step_write (r := .cmd) h).trans (if_pos rfl)

/-- Settles O8: by whether the word is legal. -/
theorem stepRunsDecodedWord : Obligations.StepRunsDecodedWord := fun _ _ _ h =>
  ⟨fun _ hi => (step_cmdWrite h).trans (runWord_of_ok hi _), fun _ he => step_of_error he h⟩

/-- Settles O57: both runs commit one effect, that of the parameters and `S` they share. -/
theorem commandsDependOnTheBlockAlone : Obligations.CommandsDependOnTheBlockAlone := by
  intro i s s' hcfg hblk
  have heffect : commandEffect s'.cfg s'.blk i = commandEffect s.cfg s.blk i := by rw [hcfg, hblk]
  have hexec' : exec i s' = .next (s'.commit (commandEffect s.cfg s.blk i)) := heffect ▸ exec_eq_commit i s'
  exact ⟨_, _, _, _, _, exec_eq_commit i s, hexec', rfl, rfl, rfl, rfl, rfl, rfl, rfl⟩

/-! The registers after reset -/

/-- A queue holds at least one request (R8), so the empty one is not full. -/
theorem Block.qFull_reset (c : Config) : (Block.reset c).qFull c = false :=
  decide_eq_false fun h : 0 = c.queueDepth => absurd c.one_le_queueDepth (by omega)

/-- After reset STATUS shows Q_EMPTY alone (R93). -/
theorem Block.status_reset (c : Config) : (Block.reset c).status c = 0x00000080 := by
  rw [Block.status, Block.qFull_reset]
  simp [Block.reset, Block.curAckExpected, RxState.bits, ExtEvent.bits, TxState.bits]

/-- All ones read the same from either end (R119). -/
theorem refl32_allOnes : refl32 (BitVec.allOnes 32) = BitVec.allOnes 32 := by
  ext i hi
  simp only [refl32, BitVec.getElem_reverse, BitVec.getMsbD_allOnes, BitVec.getElem_allOnes, hi, decide_true]

/-- The default preset's final step clears its initial value (R93). -/
theorem crcFinal_crcInit_standard (page : Nat) :
    crcFinal (Config.standard page) (Config.standard page).crcInit = 0 := by
  have hinit : (Config.standard page).crcInit = BitVec.allOnes 32 := rfl
  have hxorout : (Config.standard page).crcXorout = BitVec.allOnes 32 := rfl
  have hrefout : (Config.standard page).crcRefout = true := rfl
  rw [crcFinal, if_pos hrefout, hinit, hxorout, refl32_allOnes, BitVec.xor_self]
  rfl

/-- The configuration registers of the default block, which do not depend on where its window lies (R94). -/
theorem cfgRegs_standard (page : Nat) :
    cfg0Reg (Config.standard page) = 0x00060802 ∧ cfg1Reg (Config.standard page) = 0x00000032 ∧
    cfg2Reg (Config.standard page) = 0x00000040 ∧ cfg3Reg (Config.standard page) = 0x00441506 := by
  change cfg0Reg (Config.standard 0) = _ ∧ cfg1Reg (Config.standard 0) = _ ∧
    cfg2Reg (Config.standard 0) = _ ∧ cfg3Reg (Config.standard 0) = _
  decide

/-- Settles O20: every register but STATUS and the default CRC shows one field of the reset record or the parameters. -/
theorem registersAfterReset : Obligations.RegistersAfterReset :=
  ⟨fun c => ⟨Block.status_reset c, rfl, rfl, rfl, rfl, rfl, rfl, rfl⟩,
    fun page _ => ⟨crcFinal_crcInit_standard page, cfgRegs_standard page⟩⟩

/-! NOP and CLR_ERR -/

/-- The mask of the bits [23:0] keeps them. -/
theorem extractLsb'_and_lowMask (w : Word) : (w &&& 0x00FFFFFF).extractLsb' 0 24 = w.extractLsb' 0 24 :=
  BitVec.extractLsb'_and.trans BitVec.and_allOnes

/-- Settles O22: the must-be-zero bits of NOP are all of [23:0]. -/
theorem nopCommand : Obligations.NopCommand := by
  refine ⟨fun _ => rfl, rfl, fun w hop hlow => ?_, rfl⟩
  refine (decode_error_iff_of_opField (r := .nop) (by decide) (by decide) hop.symm).mpr fun hzero => hlow ?_
  calc w.extractLsb' 0 24 = (w &&& 0x00FFFFFF).extractLsb' 0 24 := (extractLsb'_and_lowMask w).symm
    _ = (0 : Word).extractLsb' 0 24 := congrArg _ hzero
    _ = 0#24 := rfl

/-- CLR_ERR from any state, by what its mask leaves of ERR; the response is ERR as it was (R90). -/
theorem exec_clrErr {s : State} {m e : Byte} (h : s.blk.err &&& ~~~m = e) : exec (.clrErr m) s = .next { s with
    blk := { s.blk with err := e, result := s.blk.err.setWidth 32 } } := by
  subst h
  rfl

/-- Settles O23: a mask of no bits keeps ERR, and one of all bits clears it. -/
theorem clrErrCommand : Obligations.ClrErrCommand := by
  refine ⟨fun _ _ => exec_clrErr rfl, fun _ => rfl, fun _ => exec_clrErr BitVec.and_allOnes,
    fun _ => exec_clrErr BitVec.and_zero, fun s herr => ?_⟩
  rw [exec_clrErr (e := 0x08) (by rw [herr]; decide), herr]
  rfl

end Sys2Proof.Machine
end

section
/-! Proofs of the obligations of 41_timer.md: what one TICK does (R100), when the deadline test holds on the way to a
deadline (R101), and a timer's whole life by induction over the TICKs since its start. -/

namespace Sys2Proof.Machine

/-! One TICK -/

/-- The deadline test as a number (R101). -/
theorem reached_iff (now deadline : Word) : reached now deadline = true ↔ (now - deadline).toNat < 2 ^ 31 :=
  decide_eq_true_iff

/-- TICK changes `S` alone. -/
theorem exec_tick (s : State) : exec .tick s = .next (s.onBlock tickOp) := rfl

/-- An armed TICK that reaches the deadline raises the timer and disarms it (R100). -/
theorem tickOp_of_reached {S : Block} (harmed : S.tmrArmed = true) (hreached : reached (S.now + 1) S.tmrDeadline = true) :
    tickOp S = { S with now := S.now + 1, tmrRaised := true, tmrArmed := false, result := 1 } := by
  rcases tickOp_cases S with ⟨-, -, ht⟩ | ⟨hnot, -⟩
  · exact ht
  · exact absurd ⟨harmed, hreached⟩ hnot

/-- Settles O24: the two cases of TICK, the deadline test read as a number. -/
theorem tickCommand : Obligations.TickCommand := by
  refine ⟨rfl, fun s => ?_, fun s hnow harmed hdeadline => ?_⟩
  · rw [exec_tick, State.onBlock]
    rcases tickOp_cases s.blk with ⟨harmed, hreached, ht⟩ | ⟨hnot, ht⟩
    · rw [ht, if_pos ⟨harmed, (reached_iff _ _).mp hreached⟩]
    · rw [ht, if_neg fun ⟨harmed, hlt⟩ => hnot ⟨harmed, (reached_iff _ _).mpr hlt⟩]
  · have hreached : reached (s.blk.now + 1) s.blk.tmrDeadline = true := by
      rw [hnow, hdeadline]
      decide
    rw [exec_tick, State.onBlock, tickOp_of_reached harmed hreached, hnow]
    rfl

/-! The TICKs since the start of a timer -/

/-- One more tick of the counter. -/
theorem add_ofNat_succ (t : Word) (k : Nat) : t + BitVec.ofNat 32 (k + 1) = t + BitVec.ofNat 32 k + 1 := by
  rw [BitVec.ofNat_add, BitVec.add_assoc]
  rfl

/-- R103, R104: from the first tick after the start of a timer of duration `d` to the `max d 1`-th, the deadline test holds
at the last one only. Before it the modular difference is at least 2^31 + 1, as `d` is at most 2^31 - 1. -/
theorem reached_add_iff (t : Word) {d n : Nat} (hd : d ≤ 2 ^ 31 - 1) (hpos : 0 < n) (hn : n ≤ max d 1) :
    reached (t + BitVec.ofNat 32 n) (t + BitVec.ofNat 32 d) = true ↔ n = max d 1 := by
  have hdiff : (t + BitVec.ofNat 32 n - (t + BitVec.ofNat 32 d)).toNat = (2 ^ 32 - d + n) % 2 ^ 32 := by
    simp only [BitVec.toNat_sub, BitVec.toNat_add, BitVec.toNat_ofNat]
    omega
  rw [reached_iff, hdiff]
  omega

/-- The block `k` TICKs after it started its timer with duration `d`, as `S` (R101). -/
def Block.afterTicks (d k : Nat) (S : Block) : Block :=
  { S with
    now := S.now + BitVec.ofNat 32 k
    tmrArmed := decide (k < max d 1)
    tmrRaised := decide (max d 1 ≤ k)
    result := if k = 0 then S.result else if k = max d 1 then 1 else 0 }

/-- The timer at its start is armed and not raised (R98). -/
theorem Block.afterTicks_zero (d : Nat) {S : Block} (harmed : S.tmrArmed = true) (hraised : S.tmrRaised = false) :
    S.afterTicks d 0 = S := by
  have harmed' : decide (0 < max d 1) = S.tmrArmed := by simp [harmed]
  have hraised' : decide (max d 1 ≤ 0) = S.tmrRaised := by simp [hraised]
  rw [Block.afterTicks, harmed', hraised', BitVec.add_zero, if_pos rfl]

/-- The TICK after the `k`-th raises the timer iff it is the `max d 1`-th (R101): a later one finds it disarmed. -/
theorem Block.afterTicks_raises_iff {S : Block} {d : Nat} (hd : d ≤ 2 ^ 31 - 1)
    (hdeadline : S.tmrDeadline = S.now + BitVec.ofNat 32 d) (k : Nat) :
    ((S.afterTicks d k).tmrArmed = true ∧ reached ((S.afterTicks d k).now + 1) (S.afterTicks d k).tmrDeadline = true) ↔
      k + 1 = max d 1 := by
  change decide (k < max d 1) = true ∧ reached (S.now + BitVec.ofNat 32 k + 1) S.tmrDeadline = true ↔ _
  rw [decide_eq_true_iff, hdeadline, ← add_ofNat_succ]
  constructor
  · rintro ⟨harmed, hreached⟩
    exact (reached_add_iff S.now hd k.succ_pos harmed).mp hreached
  · intro hk
    exact ⟨hk.le, (reached_add_iff S.now hd k.succ_pos hk.le).mpr hk⟩

/-- A TICK leads from the block after `k` TICKs to the block after `k + 1`. -/
theorem tickOp_afterTicks {S : Block} {d : Nat} (hd : d ≤ 2 ^ 31 - 1)
    (hdeadline : S.tmrDeadline = S.now + BitVec.ofNat 32 d) (k : Nat) :
    tickOp (S.afterTicks d k) = S.afterTicks d (k + 1) := by
  have hraises := Block.afterTicks_raises_iff hd hdeadline k
  rcases tickOp_cases (S.afterTicks d k) with ⟨harmed, hreached, ht⟩ | ⟨hnot, ht⟩
  · have hk : k + 1 = max d 1 := hraises.mp ⟨harmed, hreached⟩
    rw [ht]
    simp only [Block.afterTicks, add_ofNat_succ, hk.not_lt, hk.ge, if_pos hk, if_neg k.succ_ne_zero, decide_true,
      decide_false]
  · have hk : k + 1 ≠ max d 1 := mt hraises.mpr hnot
    have harmed : k < max d 1 ↔ k + 1 < max d 1 := by omega
    have hraised : max d 1 ≤ k ↔ max d 1 ≤ k + 1 := by omega
    rw [ht]
    simp only [Block.afterTicks, add_ofNat_succ, harmed, hraised, if_neg hk, if_neg k.succ_ne_zero]

/-- Any number of TICKs after the start of a timer, by induction on their number. -/
theorem execAll_ticks {s : State} {d : Nat} (hd : d ≤ 2 ^ 31 - 1) (harmed : s.blk.tmrArmed = true)
    (hraised : s.blk.tmrRaised = false) (hdeadline : s.blk.tmrDeadline = s.blk.now + BitVec.ofNat 32 d) (k : Nat) :
    execAll (List.replicate k .tick) s = .next (s.onBlock (Block.afterTicks d k)) := by
  induction k with
  | zero => rw [List.replicate_zero, execAll_nil, State.onBlock, Block.afterTicks_zero d harmed hraised]
  | succ k ih =>
    rw [List.replicate_succ', execAll_append ih, execAll_cons (exec_tick _), execAll_nil]
    simp only [State.onBlock, tickOp_afterTicks hd hdeadline]

/-- Settles O25: the induction over the TICKs from the start of the timer. -/
theorem timerRaisesExactlyAtItsDeadline : Obligations.TimerRaisesExactlyAtItsDeadline :=
  ⟨fun _ _ => rfl, fun _ _ hd harmed hraised hdeadline k => execAll_ticks hd harmed hraised hdeadline k⟩

end Sys2Proof.Machine
end

section
/-! Proofs of the obligations of 42_queue.md: the staging commands (R108, R109), the two commands that commit a request
(R110, R111), and the FIFO law of the queue (R114), by induction over the commands from what one command does to the queue. -/

namespace Sys2Proof.Machine

/-! The staging buffer -/

/-- Settles O26: STAGE_CLEAR has one case. -/
theorem stageClearCommand : Obligations.StageClearCommand := ⟨rfl, fun _ => rfl⟩

/-- STAGE_BYTE changes `S` alone. -/
theorem exec_stageByte (b : Byte) (s : State) : exec (.stageByte b) s = .next (s.onBlock (stageByteOp s.cfg b)) := rfl

/-- Settles O27: the two cases of STAGE_BYTE; bit 4 of ERR is the stage overflow's. -/
theorem stageByteCommand : Obligations.StageByteCommand := by
  refine ⟨fun _ => rfl, fun s b => ?_⟩
  rw [exec_stageByte, State.onBlock]
  rcases stageByteOp_cases s.cfg b s.blk with ⟨hfull, hb⟩ | ⟨hroom, hb⟩ <;> rw [hb]
  · exact ⟨fun _ => rfl, fun hroom => absurd hfull hroom⟩
  · exact ⟨fun hfull => absurd hfull hroom, fun _ => rfl⟩

/-! Committing a request -/

/-- The request that ENQUEUE commits when it accepts: the staged bytes under the given type and flag (R110). -/
def Block.staged (S : Block) (t : Byte) (a : Bool) : Request := { type := t, ackExpected := a, payload := S.stage }

/-- ENQUEUE's three clauses (R110), for the type of either command that commits a request. -/
theorem execEnqueue_clauses (t : Byte) (a : Bool) (s : State) :
    (s.blk.stageOvf = true → execEnqueue t a s = .next { s with
      blk := { s.blk with err := s.blk.err ||| 0x10, result := 0x00000500 } }) ∧
    (s.blk.stageOvf = false → s.blk.q.length = s.cfg.queueDepth → execEnqueue t a s = .next { s with
      blk := { s.blk with err := s.blk.err ||| 0x04, result := 0x00000300 } }) ∧
    (s.blk.stageOvf = false → s.blk.q.length ≠ s.cfg.queueDepth → execEnqueue t a s = .next { s with
      blk := { s.blk with q := s.blk.q ++ [s.blk.staged t a], result := 0x00000001 } }) := by
  rw [execEnqueue, State.onBlock]
  rcases Block.enqueue_cases s.cfg t a s.blk with ⟨hovf, he⟩ | ⟨hovf, hfull, he⟩ | ⟨hovf, hroom, he⟩ <;> rw [he]
  · have hno : s.blk.stageOvf ≠ false := by simp [hovf]
    exact ⟨fun _ => rfl, fun h => absurd h hno, fun h => absurd h hno⟩
  · have hno : s.blk.stageOvf ≠ true := by simp [hovf]
    exact ⟨fun h => absurd h hno, fun _ _ => rfl, fun _ hroom => absurd hfull hroom⟩
  · have hno : s.blk.stageOvf ≠ true := by simp [hovf]
    exact ⟨fun h => absurd h hno, fun _ hfull => absurd hfull hroom, fun _ _ => rfl⟩

/-- Settles O28: ENQUEUE's three clauses. -/
theorem enqueueCommand : Obligations.EnqueueCommand :=
  ⟨fun _ _ => rfl, fun s t a => execEnqueue_clauses t a s⟩

/-- Settles O29: SEND_DEBUG is ENQUEUE with the type P_TYPE_DEBUG. -/
theorem sendDebugCommand : Obligations.SendDebugCommand :=
  ⟨fun _ => rfl, fun s a => execEnqueue_clauses s.cfg.typeDebug a s⟩

/-! The commands that leave the queue as it is -/

theorem tickOp_q (S : Block) : (tickOp S).q = S.q := by
  rcases tickOp_cases S with ⟨-, -, ht⟩ | ⟨-, ht⟩ <;> rw [ht]

theorem stageByteOp_q (c : Config) (b : Byte) (S : Block) : (stageByteOp c b S).q = S.q := by
  rcases stageByteOp_cases c b S with ⟨-, hb⟩ | ⟨-, hb⟩ <;> rw [hb]

theorem endOfFrame_q (c : Config) (f : List Byte) (S : Block) : (endOfFrame c f S).blk.q = S.q := by
  rcases endOfFrame_cases c f S with ⟨-, he⟩ | ⟨-, he⟩ | ⟨p, -, he⟩ | ⟨p, -, he⟩ | ⟨t, p, -, -, -, he⟩ <;> rw [he]
  case inr.inr.inl => exact Block.postExt_q .ack S
  case inr.inr.inr.inl => exact Block.postExt_q .nack S
  all_goals rfl

theorem rxByteOp_q (c : Config) (b : Byte) (S : Block) : (rxByteOp c b S).1.q = S.q := by
  rcases rxByteOp_cases c b S with ⟨-, -, hr⟩ | ⟨-, -, hr⟩ | ⟨-, -, -, hr⟩ | ⟨-, -, -, hr⟩ | ⟨-, -, -, hr⟩ |
    ⟨-, -, hr⟩ | ⟨x, -, -, hr⟩ | ⟨-, -, hr⟩ <;> rw [hr]
  case inr.inr.inr.inl => exact endOfFrame_q c S.rxBuf S

/-! One command and the queue -/

/-- The wire bytes of a request (R134). -/
def Request.wire (c : Config) (r : Request) : List Byte := Machine.wire c r.type r.payload

/-- `enqueue` appends its request exactly when it answers 1 (R110). -/
theorem Block.enqueue_q (c : Config) (t : Byte) (a : Bool) (S : Block) :
    (Block.enqueue c t a S).q = S.q ++ if (Block.enqueue c t a S).result = 1 then [S.staged t a] else [] := by
  rcases Block.enqueue_cases c t a S with ⟨-, he⟩ | ⟨-, -, he⟩ | ⟨-, -, he⟩ <;> rw [he]
  · exact (List.append_nil S.q).symm
  · exact (List.append_nil S.q).symm
  · rfl

/-- RUN takes the head of the queue and sends it exactly when it answers 1 or 5, and leaves the queue otherwise (R144). -/
theorem runOp_queue (c : Config) (S : Block) : ∃ sent : List Request,
    sent ++ (runOp c S).1.q = S.q ∧
    (if (runOp c S).1.result = 1 ∨ (runOp c S).1.result = 5 then [(runOp c S).2.txd] else []) =
      sent.map (Request.wire c) := by
  rcases runOp_cases c S with ⟨-, -, hr⟩ | ⟨r, rest, -, hq, -, hr⟩ | ⟨r, rest, -, hq, -, hr⟩ | ⟨r, -, -, -, hr⟩ |
    ⟨r, -, -, -, -, -, hr⟩ | ⟨r, -, -, -, -, -, hr⟩ | ⟨-, -, -, hr⟩ <;> rw [hr]
  case inr.inl => exact ⟨[r], hq.symm, rfl⟩
  case inr.inr.inl => exact ⟨[r], hq.symm, rfl⟩
  all_goals exact ⟨[], rfl, rfl⟩

/-- What a RUN shows of a first copy is its own output, when its answer is 1 or 5 (R79). -/
theorem firstCopyBy_run (s : State) (e : Block × Out) :
    firstCopyBy .run s (s.commit e) = if e.1.result = 1 ∨ e.1.result = 5 then [e.2.txd] else [] := by
  simp only [firstCopyBy, true_and, State.commit_blk, State.commit_txd, List.drop_left]

/-- A queue left as it is keeps its order, nothing sent and nothing committed. -/
theorem Block.queue_kept {S T : Block} (h : T.q = S.q) : [] ++ T.q = S.q ++ [] := by
  rw [h, List.nil_append, List.append_nil]

/-- One command but RESET: what it sends followed by what then waits is what waited followed by what it commits. -/
theorem exec_queue {i : Instr} (hi : i ≠ .reset) {s t : State} (h : exec i s = .next t) : ∃ sent : List Request,
    sent ++ t.blk.q = s.blk.q ++ acceptedBy i s t ∧ firstCopyBy i s t = sent.map (Request.wire s.cfg) := by
  obtain rfl := eq_commit_of_exec h
  cases i with
  | reset => exact absurd rfl hi
  | run =>
    obtain ⟨sent, hq, hcopy⟩ := runOp_queue s.cfg s.blk
    exact ⟨sent, hq.trans (List.append_nil _).symm, (firstCopyBy_run s _).trans hcopy⟩
  | enqueue t a => exact ⟨[], Block.enqueue_q s.cfg t a s.blk, rfl⟩
  | sendDebug a => exact ⟨[], Block.enqueue_q s.cfg s.cfg.typeDebug a s.blk, rfl⟩
  | tick => exact ⟨[], Block.queue_kept (tickOp_q s.blk), rfl⟩
  | setExtEventAck => exact ⟨[], Block.queue_kept (Block.postExt_q .ack s.blk), rfl⟩
  | setExtEventNack => exact ⟨[], Block.queue_kept (Block.postExt_q .nack s.blk), rfl⟩
  | stageByte b => exact ⟨[], Block.queue_kept (stageByteOp_q s.cfg b s.blk), rfl⟩
  | rxByte b => exact ⟨[], Block.queue_kept (rxByteOp_q s.cfg b s.blk), rfl⟩
  | nop | init | stageClear | crcInit | crcByte _ | crcRead | clrErr _ => exact ⟨[], Block.queue_kept rfl, rfl⟩

/-! Sequences of commands -/

/-- The order of one queue goes on from a first part of a run to a second. -/
theorem queue_order_trans {q q' q'' sent sent' accepted accepted' : List Request} (h : sent ++ q' = q ++ accepted)
    (h' : sent' ++ q'' = q' ++ accepted') : (sent ++ sent') ++ q'' = q ++ (accepted ++ accepted') := by
  calc (sent ++ sent') ++ q'' = sent ++ (q' ++ accepted') := by rw [List.append_assoc, h']
    _ = q ++ (accepted ++ accepted') := by rw [← List.append_assoc, h, List.append_assoc]

/-- The FIFO law over every sequence of commands but RESET, by induction on the sequence. -/
theorem execAll_queue {cmds : List Instr} (hcmds : .reset ∉ cmds) (s : State) : ∃ t sent, execAll cmds s = .next t ∧
    sent ++ t.blk.q = s.blk.q ++ trace acceptedBy cmds s ∧
    trace firstCopyBy cmds s = sent.map (Request.wire s.cfg) := by
  induction cmds generalizing s with
  | nil => exact ⟨s, [], rfl, (List.append_nil s.blk.q).symm, rfl⟩
  | cons i rest ih =>
    obtain ⟨hi, hrest⟩ := List.ne_and_not_mem_of_not_mem_cons hcmds
    have hexec := exec_eq_commit i s
    obtain ⟨sent, hq, hcopy⟩ := exec_queue hi.symm hexec
    obtain ⟨t, sent', hrun, hq', hcopy'⟩ := ih hrest (s.commit (commandEffect s.cfg s.blk i))
    refine ⟨t, sent ++ sent', (execAll_cons hexec rest).trans hrun, ?_, ?_⟩
    · rw [trace_cons _ hexec]
      exact queue_order_trans hq hq'
    · rw [trace_cons _ hexec, hcopy, hcopy', List.map_append, State.commit_cfg]

/-! Sequences of RUNs and accepted ENQUEUEs without acknowledgements -/

/-- In POLL, the stage not overflowed, no waiting request expects an acknowledgement, and `n` more fit the queue. -/
structure Block.Unacknowledged (c : Config) (n : Nat) (S : Block) : Prop where
  poll : S.txState = .poll
  stageOk : S.stageOvf = false
  noAck : ∀ r ∈ S.q, r.ackExpected = false
  room : S.q.length + n ≤ c.queueDepth

/-- From `s` to `t` the queue went on in order, `accepted` committed: TXD got exactly the wire bytes of the requests sent,
and REPORT a record of each, "sent, no acknowledgement expected" (R45). The parameters and the stage stay. -/
structure Delivers (accepted : List Request) (s t : State) : Prop where
  cfg : t.cfg = s.cfg
  stage : t.blk.stage = s.blk.stage
  inOrder : ∃ sent, sent ++ t.blk.q = s.blk.q ++ accepted ∧
    t.txd = s.txd ++ sent.flatMap (Request.wire s.cfg) ∧
    t.report = s.report ++ sent.map (fun r => { code := 0x02, type := r.type, count := 1 })

/-- Nothing sent: the channels stay, and what is committed joins the queue. -/
theorem Delivers.of_nothing_sent {accepted : List Request} {s t : State} (hcfg : t.cfg = s.cfg)
    (hstage : t.blk.stage = s.blk.stage) (hq : t.blk.q = s.blk.q ++ accepted) (htxd : t.txd = s.txd)
    (hreport : t.report = s.report) : Delivers accepted s t :=
  ⟨hcfg, hstage, [], hq, htxd.trans (List.append_nil s.txd).symm, hreport.trans (List.append_nil s.report).symm⟩

/-- Deliveries one after the other. -/
theorem Delivers.trans {accepted accepted' : List Request} {s t u : State} (h : Delivers accepted s t)
    (h' : Delivers accepted' t u) : Delivers (accepted ++ accepted') s u := by
  obtain ⟨hcfg, hstage, sent, hq, htxd, hreport⟩ := h
  obtain ⟨hcfg', hstage', sent', hq', htxd', hreport'⟩ := h'
  refine ⟨hcfg'.trans hcfg, hstage'.trans hstage, sent ++ sent', queue_order_trans hq hq', ?_, ?_⟩
  · rw [htxd', htxd, hcfg, List.flatMap_append, List.append_assoc]
  · rw [hreport', hreport, List.map_append, List.append_assoc]

/-- A RUN finds the queue empty, or it delivers the head, which expects no acknowledgement. -/
theorem exec_run_delivers {n : Nat} {s : State} (h : s.blk.Unacknowledged s.cfg n) :
    ∃ u, exec .run s = .next u ∧ Delivers [] s u ∧ u.blk.Unacknowledged s.cfg n := by
  obtain ⟨hpoll, hstage, hnoAck, hroom⟩ := h
  refine ⟨s.commit (runOp s.cfg s.blk), rfl, ?_⟩
  rcases runOp_cases s.cfg s.blk with ⟨-, -, hr⟩ | ⟨r, rest, -, hq, hack, -⟩ | ⟨r, rest, -, hq, -, hr⟩ | ⟨r, htx, -⟩ |
    ⟨r, htx, -⟩ | ⟨r, htx, -⟩ | ⟨htx, -⟩
  case inl =>
    rw [hr]
    exact ⟨.of_nothing_sent rfl rfl (List.append_nil _).symm (List.append_nil _) (List.append_nil _),
      hpoll, hstage, hnoAck, hroom⟩
  case inr.inl =>
    have hnoAckHead : r.ackExpected = false := hnoAck r (hq ▸ List.mem_cons_self)
    exact absurd (hack.symm.trans hnoAckHead) nofun
  case inr.inr.inl =>
    obtain ⟨-, hnoAckRest⟩ := List.forall_mem_cons.mp (hq ▸ hnoAck)
    have hroomRest : rest.length + n ≤ s.cfg.queueDepth := by
      rw [hq, List.length_cons] at hroom
      omega
    have htxd : s.txd ++ r.wire s.cfg = s.txd ++ [r].flatMap (Request.wire s.cfg) := by rw [List.flatMap_singleton]
    have horder : [r] ++ rest = s.blk.q ++ [] := by rw [hq, List.append_nil, List.singleton_append]
    rw [hr]
    exact ⟨⟨rfl, rfl, [r], horder, htxd, rfl⟩, hpoll, hstage, hnoAckRest, hroomRest⟩
  all_goals exact absurd (hpoll.symm.trans htx) nofun

/-- An ENQUEUE without acknowledgement is accepted while there is room. -/
theorem exec_enqueue_delivers {n : Nat} {s : State} (h : s.blk.Unacknowledged s.cfg (n + 1)) (t : Byte) :
    ∃ u, exec (.enqueue t false) s = .next u ∧ Delivers [s.blk.staged t false] s u ∧
      u.blk.Unacknowledged s.cfg n := by
  obtain ⟨hpoll, hstage, hnoAck, hroom⟩ := h
  obtain ⟨-, -, haccepted⟩ := execEnqueue_clauses t false s
  have hnoAck' : ∀ r ∈ s.blk.q ++ [s.blk.staged t false], r.ackExpected = false :=
    List.forall_mem_append.mpr ⟨hnoAck, List.forall_mem_singleton.mpr rfl⟩
  have hroom' : (s.blk.q ++ [s.blk.staged t false]).length + n ≤ s.cfg.queueDepth := by
    rw [List.length_append, List.length_singleton]
    omega
  exact ⟨_, haccepted hstage (by omega), .of_nothing_sent rfl rfl rfl rfl rfl, hpoll, hstage, hnoAck', hroom'⟩

/-- Any sequence of RUNs and ENQUEUEs without acknowledgement, within the capacity, by induction on the sequence. -/
theorem execAll_delivers {cmds : List Instr} (hcmds : ∀ i ∈ cmds, i = .run ∨ ∃ t, i = .enqueue t false) {s : State}
    (h : s.blk.Unacknowledged s.cfg (enqueued s.blk.stage cmds).length) :
    ∃ t, execAll cmds s = .next t ∧ Delivers (enqueued s.blk.stage cmds) s t ∧ t.blk.txState = .poll := by
  induction cmds generalizing s with
  | nil => exact ⟨s, rfl, .of_nothing_sent rfl rfl (List.append_nil _).symm rfl rfl, h.poll⟩
  | cons i rest ih =>
    obtain ⟨hi, hrest⟩ := List.forall_mem_cons.mp hcmds
    have hstep : ∃ accepted u, enqueued s.blk.stage (i :: rest) = accepted ++ enqueued s.blk.stage rest ∧
        exec i s = .next u ∧ Delivers accepted s u ∧ u.blk.Unacknowledged s.cfg (enqueued s.blk.stage rest).length := by
      obtain rfl | ⟨t, rfl⟩ := hi
      · obtain ⟨u, hu⟩ := exec_run_delivers h
        exact ⟨[], u, rfl, hu⟩
      · obtain ⟨u, hu⟩ := exec_enqueue_delivers h t
        exact ⟨[s.blk.staged t false], u, rfl, hu⟩
    obtain ⟨accepted, u, hsplit, hexec, hdelivers, hu⟩ := hstep
    rw [← hdelivers.stage, ← hdelivers.cfg] at hu
    obtain ⟨t, hrun, hdelivers', hpoll⟩ := ih hrest hu
    refine ⟨t, (execAll_cons hexec rest).trans hrun, ?_, hpoll⟩
    rw [hsplit, ← hdelivers.stage]
    exact hdelivers.trans hdelivers'

/-- Settles O30: the order law by induction over the commands, and the output of the unacknowledged sequences by another. -/
theorem queueIsFifo : Obligations.QueueIsFifo := by
  refine ⟨fun s _ hcmds => execAll_queue hcmds s, fun s cmds hpoll hstage hnoAck hcmds hroom => ?_⟩
  obtain ⟨t, hrun, ⟨-, -, sent, hq, htxd, hreport⟩, hpoll'⟩ := execAll_delivers hcmds ⟨hpoll, hstage, hnoAck, hroom⟩
  exact ⟨t, sent, hrun, hq, htxd, hreport, hpoll'⟩

end Sys2Proof.Machine
end

section
/-! Proofs of the obligations of 43_crc.md about the CRC function: the reflections bit by bit (R119), the step as eight
shifts (R121), the fold (R122), and the reflected form (R128) by a simulation of one shift, lifted to a byte and then to
a byte list. -/

namespace Sys2Proof.Machine

/-! The reflections (R119) -/

theorem refl8_getLsbD (b : Byte) {i : Nat} (hi : i < 8) : (refl8 b).getLsbD i = b.getLsbD (7 - i) := by
  rw [refl8, BitVec.getLsbD_reverse, BitVec.getMsbD_eq_getLsbD, decide_eq_true hi, Bool.true_and]

theorem refl32_getLsbD (x : Word) {i : Nat} (hi : i < 32) : (refl32 x).getLsbD i = x.getLsbD (31 - i) := by
  rw [refl32, BitVec.getLsbD_reverse, BitVec.getMsbD_eq_getLsbD, decide_eq_true hi, Bool.true_and]

theorem refl8_injective : Function.Injective refl8 :=
  Function.LeftInverse.injective (g := refl8) fun _ => BitVec.reverse_reverse_eq

theorem refl32_injective : Function.Injective refl32 :=
  Function.LeftInverse.injective (g := refl32) fun _ => BitVec.reverse_reverse_eq

theorem refl32_xor (x y : Word) : refl32 (x ^^^ y) = refl32 x ^^^ refl32 y := by
  refine BitVec.eq_of_getLsbD_eq fun i hi => ?_
  rw [BitVec.getLsbD_xor, refl32_getLsbD _ hi, refl32_getLsbD _ hi, refl32_getLsbD _ hi, BitVec.getLsbD_xor]

/-- Reflected, a shift to the left is one to the right. -/
theorem refl32_shiftLeft_one (x : Word) : refl32 (x <<< 1) = refl32 x >>> 1 := by
  refine BitVec.eq_of_getLsbD_eq fun i hi => ?_
  rw [refl32_getLsbD _ hi, BitVec.getLsbD_shiftLeft, BitVec.getLsbD_ushiftRight]
  obtain rfl | hlt : i = 31 ∨ 1 + i < 32 := by omega
  · simp
  · rw [refl32_getLsbD _ hlt]
    simp only [show 31 - i < 32 by omega, show ¬ 31 - i < 1 by omega, show 31 - i - 1 = 31 - (1 + i) by omega,
      decide_true, decide_false, Bool.not_false, Bool.true_and]

/-- A byte at the top of a word, reflected, is the reflected byte at its bottom. -/
theorem refl32_topByte (b : Byte) : refl32 (b.setWidth 32 <<< 24) = (refl8 b).setWidth 32 := by
  refine BitVec.eq_of_getLsbD_eq fun i hi => ?_
  rw [refl32_getLsbD _ hi, BitVec.getLsbD_shiftLeft, BitVec.getLsbD_setWidth, BitVec.getLsbD_setWidth]
  obtain hlow | hhigh := Nat.lt_or_ge i 8
  · rw [refl8_getLsbD b hlow]
    simp only [show 31 - i < 32 by omega, show ¬ 31 - i < 24 by omega, show 31 - i - 24 = 7 - i by omega, hi,
      show 7 - i < 32 by omega, decide_true, decide_false, Bool.not_false, Bool.true_and]
  · rw [BitVec.getLsbD_of_ge (refl8 b) i hhigh]
    simp only [show 31 - i < 24 by omega, decide_true, Bool.not_true, Bool.and_false, Bool.false_and]

/-! The step and the fold (R121, R122) -/

theorem crcShifts_eq_iterate (c : Config) (n : Nat) (acc : Word) : crcShifts c n acc = (crcShift c)^[n] acc := by
  induction n generalizing acc with
  | zero => rfl
  | succ n ih => exact ih (crcShift c acc)

theorem reflShifts_eq_iterate (c : Config) (n : Nat) (racc : Word) : reflShifts c n racc = (reflShift c)^[n] racc := by
  induction n generalizing racc with
  | zero => rfl
  | succ n ih => exact ih (reflShift c racc)

/-- Settles O34: the reflections bit by bit, the shifts as an iteration; the final step is its definition. -/
theorem crcStepAndFinal : Obligations.CrcStepAndFinal :=
  ⟨fun b _ => refl8_getLsbD b, fun x _ => refl32_getLsbD x, by decide, by decide, by decide +kernel,
    fun c _ _ => crcShifts_eq_iterate c 8 _, fun _ _ => rfl, fun _ _ => rfl⟩

theorem crcFold_eq_foldl (c : Config) (acc : Word) (bs : List Byte) : crcFold c acc bs = bs.foldl (crcStep c) acc := by
  induction bs generalizing acc with
  | nil => rfl
  | cons b rest ih => exact ih (crcStep c acc b)

/-- The accumulation law (R122). -/
theorem crcFold_append (c : Config) (acc : Word) (xs ys : List Byte) :
    crcFold c acc (xs ++ ys) = crcFold c (crcFold c acc xs) ys := by
  simp only [crcFold_eq_foldl, List.foldl_append]

/-- Settles O35: the fold is a left fold. -/
theorem crcAccumulationLaw : Obligations.CrcAccumulationLaw := fun c =>
  ⟨fun _ => rfl, fun _ _ _ => rfl, fun acc xs ys => (crcFold_append c acc xs ys).symm⟩

/-! The reflected form (R128) -/

/-- One shift of the reflected form follows one shift on the reflected register: what tests bit 31 there tests bit 0. -/
theorem reflShift_refl32 (c : Config) (acc : Word) : reflShift c (refl32 acc) = refl32 (crcShift c acc) := by
  rw [reflShift, refl32_getLsbD acc (by decide), crcShift]
  split
  · rw [refl32_xor, refl32_shiftLeft_one]
  · rw [refl32_shiftLeft_one]
    exact BitVec.xor_zero

/-- The shifts of a byte, by the simulation of one shift. -/
theorem reflShifts_refl32 (c : Config) (n : Nat) (acc : Word) :
    reflShifts c n (refl32 acc) = refl32 (crcShifts c n acc) := by
  have hshift : Function.Semiconj refl32 (crcShift c) (reflShift c) := fun acc => (reflShift_refl32 c acc).symm
  rw [reflShifts_eq_iterate, crcShifts_eq_iterate]
  exact (hshift.iterate_right n acc).symm

/-- The reflected step on the reflected register is the step, reflected: in it the byte enters unreflected. -/
theorem reflStep_refl32 {c : Config} (hin : c.crcRefin = true) (acc : Word) (b : Byte) :
    reflStep c (refl32 acc) b = refl32 (crcStep c acc b) := by
  have hbyte : refl32 ((refl8 b).setWidth 32 <<< 24) = b.setWidth 32 :=
    (refl32_topByte (refl8 b)).trans (congrArg _ BitVec.reverse_reverse_eq)
  rw [reflStep, crcStep, if_pos hin, ← hbyte, ← refl32_xor, reflShifts_refl32]

/-- The fold of the reflected form, by the simulation of one step. -/
theorem foldl_reflStep_refl32 {c : Config} (hin : c.crcRefin = true) (acc : Word) (bs : List Byte) :
    bs.foldl (reflStep c) (refl32 acc) = refl32 (crcFold c acc bs) := by
  rw [crcFold_eq_foldl]
  exact List.foldl_hom refl32 fun acc b => reflStep_refl32 hin acc b

theorem crcFinal_of_refout {c : Config} (hout : c.crcRefout = true) (acc : Word) :
    crcFinal c acc = refl32 acc ^^^ c.crcXorout := by
  rw [crcFinal, if_pos hout]

/-- Settles O37: the step by the simulation of its shifts, the checksum by the simulation of its steps. -/
theorem reflectedCrcIsEquivalent : Obligations.ReflectedCrcIsEquivalent := by
  refine ⟨by decide +kernel, fun c _ _ => reflShifts_eq_iterate c 8 _, fun c hin hout =>
    ⟨reflStep_refl32 hin, crcFinal_of_refout hout, fun bs => ?_⟩⟩
  rw [crc32, crcFinal_of_refout hout, foldl_reflStep_refl32 hin]

/-! The check values (R127) -/

/-- The ASCII bytes "123456789". -/
def checkBytes : List Byte := [0x31, 0x32, 0x33, 0x34, 0x35, 0x36, 0x37, 0x38, 0x39]

theorem crcFold_checkBytes_standard :
    crcFold (Config.standard 0) (Config.standard 0).crcInit checkBytes = 0x9B63D02C := by decide +kernel

theorem crcFinal_checkValue_standard : crcFinal (Config.standard 0) 0x9B63D02C = 0xCBF43926 := by
  decide +kernel

/-- Settles O36: by computation; the default preset's checksum from its register. -/
theorem crcCheckValues : Obligations.CrcCheckValues :=
  ⟨crcFold_checkBytes_standard,
    (congrArg (crcFinal (Config.standard 0)) crcFold_checkBytes_standard).trans crcFinal_checkValue_standard,
    by decide +kernel⟩

end Sys2Proof.Machine
end

section
/-! Proofs of the obligations of 43_crc.md about the commands CRC_INIT (R124), CRC_BYTE (R125) and CRC_READ (R126): what
each does to `S`, that no other command but RESET touches the accumulator, and what a sequence of CRC_BYTEs leaves there. -/

namespace Sys2Proof.Machine

/-! The commands that leave the accumulator as it is -/

theorem tickOp_crcAcc (S : Block) : (tickOp S).crcAcc = S.crcAcc := by
  rcases tickOp_cases S with ⟨-, -, ht⟩ | ⟨-, ht⟩ <;> rw [ht]

theorem stageByteOp_crcAcc (c : Config) (b : Byte) (S : Block) : (stageByteOp c b S).crcAcc = S.crcAcc := by
  rcases stageByteOp_cases c b S with ⟨-, hb⟩ | ⟨-, hb⟩ <;> rw [hb]

/-- RUN encodes a frame with the codec's own accumulation (R133). -/
theorem runOp_crcAcc (c : Config) (S : Block) : (runOp c S).1.crcAcc = S.crcAcc := by
  rcases runOp_cases c S with ⟨-, -, hr⟩ | ⟨r, rest, -, -, -, hr⟩ | ⟨r, rest, -, -, -, hr⟩ | ⟨r, -, -, -, hr⟩ |
    ⟨r, -, -, -, -, -, hr⟩ | ⟨r, -, -, -, -, -, hr⟩ | ⟨-, -, -, hr⟩ <;> rw [hr]

theorem endOfFrame_crcAcc (c : Config) (f : List Byte) (S : Block) : (endOfFrame c f S).blk.crcAcc = S.crcAcc := by
  rcases endOfFrame_cases c f S with ⟨-, he⟩ | ⟨-, he⟩ | ⟨p, -, he⟩ | ⟨p, -, he⟩ | ⟨t, p, -, -, -, he⟩ <;> rw [he]
  case inr.inr.inl => exact Block.postExt_crcAcc .ack S
  case inr.inr.inr.inl => exact Block.postExt_crcAcc .nack S
  all_goals rfl

/-- RX_BYTE decodes a frame with the codec's own accumulation (R133). -/
theorem rxByteOp_crcAcc (c : Config) (b : Byte) (S : Block) : (rxByteOp c b S).1.crcAcc = S.crcAcc := by
  rcases rxByteOp_cases c b S with ⟨-, -, hr⟩ | ⟨-, -, hr⟩ | ⟨-, -, -, hr⟩ | ⟨-, -, -, hr⟩ | ⟨-, -, -, hr⟩ |
    ⟨-, -, hr⟩ | ⟨x, -, -, hr⟩ | ⟨-, -, hr⟩ <;> rw [hr]
  case inr.inr.inr.inl => exact endOfFrame_crcAcc c S.rxBuf S

/-- No command but CRC_INIT, CRC_BYTE and RESET touches the accumulator (R125). -/
theorem commandEffect_crcAcc {i : Instr} (hinit : i ≠ .crcInit) (hbyte : ∀ b, i ≠ .crcByte b) (hreset : i ≠ .reset)
    (c : Config) (S : Block) : (commandEffect c S i).1.crcAcc = S.crcAcc := by
  cases i with
  | crcInit => exact absurd rfl hinit
  | crcByte b => exact absurd rfl (hbyte b)
  | reset => exact absurd rfl hreset
  | run => exact runOp_crcAcc c S
  | tick => exact tickOp_crcAcc S
  | setExtEventAck => exact Block.postExt_crcAcc .ack S
  | setExtEventNack => exact Block.postExt_crcAcc .nack S
  | stageByte b => exact stageByteOp_crcAcc c b S
  | enqueue t a => exact Block.enqueue_crcAcc c t a S
  | sendDebug a => exact Block.enqueue_crcAcc c c.typeDebug a S
  | rxByte b => exact rxByteOp_crcAcc c b S
  | nop | init | stageClear | crcRead | clrErr _ => rfl

/-! The three commands -/

/-- CRC_INIT changes `S` alone. -/
theorem exec_crcInit (s : State) : exec .crcInit s = .next (s.onBlock (crcInitOp s.cfg)) := rfl

/-- CRC_BYTE changes `S` alone. -/
theorem exec_crcByte (b : Byte) (s : State) : exec (.crcByte b) s = .next (s.onBlock (crcByteOp s.cfg b)) := rfl

/-- CRC_READ changes `S` alone. -/
theorem exec_crcRead (s : State) : exec .crcRead s = .next (s.onBlock (crcReadOp s.cfg)) := rfl

/-- Settles O31: the default preset's initial value has the checksum 0. -/
theorem crcInitCommand : Obligations.CrcInitCommand :=
  ⟨rfl, exec_crcInit, _, exec_crcInit State.reset, rfl, crcFinal_crcInit_standard 0⟩

/-- Settles O32: the frame by the other commands, the two examples by computation of one step. -/
theorem crcByteCommand : Obligations.CrcByteCommand := by
  refine ⟨fun _ => rfl, fun s b => exec_crcByte b s, fun i s t h hinit hbyte hreset => ?_,
    ⟨_, exec_crcByte 0xFF State.reset, by decide +kernel⟩, ⟨_, exec_crcByte 0x31 State.reset, by decide +kernel⟩⟩
  obtain rfl := eq_commit_of_exec h
  exact commandEffect_crcAcc hinit hbyte hreset s.cfg s.blk

/-- A sequence of CRC_BYTEs folds its bytes into the accumulator (R122), by induction on the bytes. -/
theorem execAll_crcBytes (bs : List Byte) (s : State) : ∃ t, execAll (bs.map .crcByte) s = .next t ∧
    t.cfg = s.cfg ∧ t.blk.crcAcc = crcFold s.cfg s.blk.crcAcc bs := by
  induction bs generalizing s with
  | nil => exact ⟨s, rfl, rfl, rfl⟩
  | cons b rest ih =>
    obtain ⟨t, hrun, hcfg, hacc⟩ := ih (s.onBlock (crcByteOp s.cfg b))
    exact ⟨t, (execAll_cons (exec_crcByte b s) _).trans hrun, hcfg, hacc⟩

/-- CRC_INIT, a sequence of CRC_BYTEs and CRC_READ answer the checksum of the bytes (R126). -/
theorem execAll_crc (bs : List Byte) (s : State) :
    ∃ t, execAll ([.crcInit] ++ bs.map .crcByte ++ [.crcRead]) s = .next t ∧ t.blk.result = crc32 s.cfg bs := by
  obtain ⟨t, hrun, hcfg, hacc⟩ := execAll_crcBytes bs (s.onBlock (crcInitOp s.cfg))
  have hbytes : execAll ([.crcInit] ++ bs.map .crcByte) s = .next t :=
    (execAll_cons (exec_crcInit s) _).trans hrun
  have hread : execAll ([.crcInit] ++ bs.map .crcByte ++ [.crcRead]) s = .next (t.onBlock (crcReadOp t.cfg)) :=
    (execAll_append hbytes _).trans (execAll_cons (exec_crcRead t) [])
  refine ⟨_, hread, ?_⟩
  change crcFinal t.cfg t.blk.crcAcc = _
  rw [hcfg, hacc]
  rfl

/-- Settles O33: the register reads what the command answers, and the example is the default preset's check value. -/
theorem crcReadCommand : Obligations.CrcReadCommand := by
  obtain ⟨t, hrun, hresult⟩ := execAll_crc checkBytes State.reset
  obtain ⟨-, hcheck, -⟩ := crcCheckValues
  exact ⟨rfl, exec_crcRead, fun _ => rfl, t, hrun, hresult.trans hcheck⟩

end Sys2Proof.Machine
end

section
/-! Proof of the obligation of 43_crc.md about single-bit errors (R129, R139). With a polynomial whose constant term is
1 every shift can be undone, so the step loses neither the register nor the byte, and a list with one other byte has
another checksum. A frame with one other byte is then rejected, by its length if the byte is one of the length field, and by its
checksum otherwise. -/

namespace Sys2Proof.Machine

/-! A list with one other byte has another checksum -/

section
variable {c : Config}

/-- With a polynomial whose constant term is 1, the bit shifted out shows in bit 0. -/
theorem crcShift_getLsbD_zero (hpoly : c.crcPoly.getLsbD 0 = true) (acc : Word) :
    (crcShift c acc).getLsbD 0 = acc.getLsbD 31 := by
  rw [crcShift]
  split
  case isTrue hmsb =>
    rw [BitVec.getLsbD_xor, BitVec.getLsbD_shiftLeft, hpoly, hmsb]
    rfl
  case isFalse hmsb =>
    rw [BitVec.getLsbD_shiftLeft, eq_false_of_ne_true hmsb]
    rfl

theorem eq_of_shiftLeft_one_eq {x y : Word} (hmsb : x.getLsbD 31 = y.getLsbD 31) (hshift : x <<< 1 = y <<< 1) :
    x = y := by
  refine BitVec.eq_of_getLsbD_eq fun i hi => ?_
  obtain rfl | hlt : i = 31 ∨ i + 1 < 32 := by omega
  · exact hmsb
  · have hbit := congrArg (BitVec.getLsbD · (i + 1)) hshift
    simpa only [BitVec.getLsbD_shiftLeft, hlt, decide_true, Bool.true_and, Nat.not_lt.mpr (Nat.le_add_left 1 i),
      decide_false, Bool.not_false, Nat.add_sub_cancel] using hbit

theorem crcShift_injective (hpoly : c.crcPoly.getLsbD 0 = true) : Function.Injective (crcShift c) := by
  intro x y h
  have hmsb : x.getLsbD 31 = y.getLsbD 31 := by
    rw [← crcShift_getLsbD_zero hpoly, h, crcShift_getLsbD_zero hpoly]
  refine eq_of_shiftLeft_one_eq hmsb ?_
  rw [crcShift, crcShift, hmsb] at h
  split at h
  · exact (BitVec.xor_left_inj _).mp h
  · exact h

theorem crcShifts_injective (hpoly : c.crcPoly.getLsbD 0 = true) (n : Nat) : Function.Injective (crcShifts c n) := by
  rw [show crcShifts c n = (crcShift c)^[n] from funext (crcShifts_eq_iterate c n)]
  exact (crcShift_injective hpoly).iterate n

/-- The step loses nothing of the register. -/
theorem crcStep_injective_acc (hpoly : c.crcPoly.getLsbD 0 = true) (b : Byte) :
    Function.Injective fun acc => crcStep c acc b :=
  fun _ _ h => (BitVec.xor_left_inj _).mp (crcShifts_injective hpoly 8 h)

/-- A byte at the top of a word is not lost. -/
theorem topByte_injective : Function.Injective fun b : Byte => b.setWidth 32 <<< 24 := by
  refine Function.LeftInverse.injective (g := opField) fun b => BitVec.eq_of_getLsbD_eq fun i hi => ?_
  have htop : 24 + i < 32 := by omega
  simp [opField, hi, htop]

/-- The step loses nothing of the byte. -/
theorem crcStep_injective_byte (hpoly : c.crcPoly.getLsbD 0 = true) (acc : Word) :
    Function.Injective (crcStep c acc) := by
  intro x y h
  have htop := topByte_injective ((BitVec.xor_right_inj _).mp (crcShifts_injective hpoly 8 h))
  split at htop
  · exact refl8_injective htop
  · exact htop

theorem crcFold_injective_acc (hpoly : c.crcPoly.getLsbD 0 = true) (bs : List Byte) :
    Function.Injective fun acc => crcFold c acc bs := by
  induction bs with
  | nil => exact Function.injective_id
  | cons b rest ih => exact ih.comp (crcStep_injective_acc hpoly b)

theorem crcFinal_injective (c : Config) : Function.Injective (crcFinal c) := by
  intro x y h
  have hrefl := (BitVec.xor_left_inj _).mp h
  split at hrefl
  · exact refl32_injective hrefl
  · exact hrefl

/-- Two lists that differ in one byte leave two registers: up to that byte they agree, and nothing is lost after. -/
theorem crcFold_set_ne (hpoly : c.crcPoly.getLsbD 0 = true) {bs : List Byte} {i : Nat} {x : Byte} (hi : i < bs.length)
    (hx : x ≠ byteAt bs i) (acc : Word) : crcFold c acc (bs.set i x) ≠ crcFold c acc bs := by
  induction bs generalizing i acc with
  | nil => exact absurd hi (Nat.not_lt_zero i)
  | cons b rest ih =>
    cases i with
    | zero => exact fun h => hx (crcStep_injective_byte hpoly acc (crcFold_injective_acc hpoly rest h))
    | succ i => exact ih (Nat.lt_of_succ_lt_succ hi) hx (crcStep c acc b)

/-- R129, for any change of one byte. -/
theorem crc32_set_ne (hpoly : c.crcPoly.getLsbD 0 = true) {bs : List Byte} {i : Nat} {x : Byte} (hi : i < bs.length)
    (hx : x ≠ byteAt bs i) : crc32 c (bs.set i x) ≠ crc32 c bs :=
  fun h => crcFold_set_ne hpoly hi hx c.crcInit (crcFinal_injective c h)

end

/-! The bytes of a list -/

theorem byteAt_append_left {xs : List Byte} {i : Nat} (hi : i < xs.length) (ys : List Byte) :
    byteAt (xs ++ ys) i = byteAt xs i := List.getD_append xs ys 0 i hi

theorem byteAt_append_right {xs : List Byte} {n : Nat} (hn : xs.length = n) (ys : List Byte) (i : Nat) :
    byteAt (xs ++ ys) (n + i) = byteAt ys i := by
  subst hn
  rw [byteAt, List.getD_append_right xs ys 0 _ (Nat.le_add_right _ _), Nat.add_sub_cancel_left, byteAt]

theorem byteAt_set_self {bs : List Byte} {i : Nat} (hi : i < bs.length) (x : Byte) : byteAt (bs.set i x) i = x := by
  rw [byteAt, List.getD_eq_getElem?_getD, List.getElem?_set_self hi, Option.getD_some]

theorem byteAt_set_ne {i k : Nat} (h : i ≠ k) (bs : List Byte) (x : Byte) : byteAt (bs.set i x) k = byteAt bs k := by
  rw [byteAt, List.getD_eq_getElem?_getD, List.getElem?_set_ne h, byteAt, List.getD_eq_getElem?_getD]

/-- A flipped bit changes its byte. -/
theorem xor_bit_ne (b : Byte) {j : Nat} (hj : j < 8) : b ^^^ (1#8 <<< j) ≠ b := by
  intro h
  have hbit := congrArg (BitVec.getLsbD · j) h
  simp [hj] at hbit

/-! The length field and the checksum field (R130, R131, R136) -/

/-- A field or-ed in above another stands beside it. -/
theorem setWidth_or_shiftLeft {m n : Nat} (w : Nat) (hi : BitVec m) (lo : BitVec n) :
    lo.setWidth w ||| (hi.setWidth w <<< n) = (hi ++ lo).setWidth w := by
  refine BitVec.eq_of_getLsbD_eq fun i hw => ?_
  rw [BitVec.getLsbD_or, BitVec.getLsbD_shiftLeft, BitVec.getLsbD_setWidth, BitVec.getLsbD_setWidth,
    BitVec.getLsbD_setWidth, BitVec.getLsbD_append]
  obtain hlow | hhigh := Nat.lt_or_ge i n
  · simp [hw, hlow]
  · have hsub : i - n < w := by omega
    simp [hw, Nat.not_lt.mpr hhigh, hsub, BitVec.getLsbD_of_ge lo i hhigh]

theorem declaredLength_eq_append (f : List Byte) : declaredLength f = byteAt f 2 ++ byteAt f 1 :=
  (setWidth_or_shiftLeft 16 (byteAt f 2) (byteAt f 1)).trans (BitVec.setWidth_eq _)

/-- The two bytes of the length field, low byte first. -/
theorem lengthBytes_declaredLength (f : List Byte) :
    lengthBytes (declaredLength f).toNat = [byteAt f 1, byteAt f 2] := by
  rw [lengthBytes, BitVec.ofNat_toNat, BitVec.setWidth_eq, declaredLength_eq_append]
  exact congrArg₂ (fun a b => [a, b]) BitVec.extractLsb'_append_eq_right BitVec.extractLsb'_append_eq_left

/-- The length field of a content declares its payload's length. -/
theorem declaredLength_content (t : Byte) {p : List Byte} (hp : p.length ≤ 65535) :
    (declaredLength (content t p)).toNat = p.length := by
  have hfield : declaredLength (content t p) = BitVec.ofNat 16 p.length :=
    (declaredLength_eq_append _).trans BitVec.extractLsb'_append_extractLsb'
  rw [hfield, BitVec.toNat_ofNat]
  omega

/-- The four bytes of the checksum field, the last one at the top. -/
theorem trailer_eq_append (tr : List Byte) :
    trailer tr 4 = byteAt tr 3 ++ (byteAt tr 2 ++ (byteAt tr 1 ++ byteAt tr 0)) := by
  have hlow := setWidth_or_shiftLeft 32 (byteAt tr 1) (byteAt tr 0)
  have hmid := setWidth_or_shiftLeft 32 (byteAt tr 2) (byteAt tr 1 ++ byteAt tr 0)
  have hhigh := setWidth_or_shiftLeft 32 (byteAt tr 3) (byteAt tr 2 ++ (byteAt tr 1 ++ byteAt tr 0))
  rw [trailer, hlow, hmid, hhigh, BitVec.setWidth_eq]

theorem trailer_checksumBytes (v : Word) : trailer (checksumBytes v) 4 = v :=
  calc trailer (checksumBytes v) 4
      = v.extractLsb' 24 8 ++ (v.extractLsb' 16 8 ++ (v.extractLsb' 8 8 ++ v.extractLsb' 0 8)) := trailer_eq_append _
    _ = v.extractLsb' 24 8 ++ (v.extractLsb' 16 8 ++ v.extractLsb' 0 16) :=
      congrArg (fun x : BitVec 16 => v.extractLsb' 24 8 ++ (v.extractLsb' 16 8 ++ x))
        (BitVec.extractLsb'_append_extractLsb'_eq_extractLsb' rfl)
    _ = v.extractLsb' 24 8 ++ v.extractLsb' 0 24 :=
      congrArg (fun x : BitVec 24 => v.extractLsb' 24 8 ++ x) (BitVec.extractLsb'_append_extractLsb'_eq_extractLsb' rfl)
    _ = v := BitVec.extractLsb'_append_extractLsb'

/-- The bytes of a word put together from four. -/
theorem checksumBytes_append (a b d e : Byte) : checksumBytes (e ++ (d ++ (b ++ a))) = [a, b, d, e] := by
  have ha : (e ++ (d ++ (b ++ a))).extractLsb' 0 8 = a :=
    (BitVec.extractLsb'_append_eq_of_add_le (by decide)).trans
      ((BitVec.extractLsb'_append_eq_of_add_le (by decide)).trans BitVec.extractLsb'_append_eq_right)
  have hb : (e ++ (d ++ (b ++ a))).extractLsb' 8 8 = b :=
    (BitVec.extractLsb'_append_eq_of_add_le (by decide)).trans
      ((BitVec.extractLsb'_append_eq_of_add_le (by decide)).trans BitVec.extractLsb'_append_eq_left)
  have hd : (e ++ (d ++ (b ++ a))).extractLsb' 16 8 = d :=
    (BitVec.extractLsb'_append_eq_of_add_le (by decide)).trans BitVec.extractLsb'_append_eq_left
  have he : (e ++ (d ++ (b ++ a))).extractLsb' 24 8 = e := BitVec.extractLsb'_append_eq_left
  exact congr (congr (congrArg₂ (fun a b d e => [a, b, d, e]) ha hb) hd) he

theorem checksumBytes_trailer {tr : List Byte} (h : tr.length = 4) : checksumBytes (trailer tr 4) = tr := by
  obtain ⟨a, b, d, e, rfl⟩ := List.length_eq_four.mp h
  rw [trailer_eq_append]
  exact checksumBytes_append a b d e

theorem codecChecksum_eq_crc32 (c : Config) (t : Byte) (p : List Byte) :
    codecChecksum c t p = crc32 c (content t p) := by
  rw [codecChecksum, crc32, content, ← crcFold_append, ← crcFold_append]
  rfl

/-- A frame is its content and the checksum of its content (R131, R133). -/
theorem frame_eq_append (c : Config) (t : Byte) (p : List Byte) :
    frame c t p = content t p ++ checksumBytes (crc32 c (content t p)) := by
  rw [frame, codecChecksum_eq_crc32]

theorem content_length (t : Byte) (p : List Byte) : (content t p).length = p.length + 3 := by
  simp [content, lengthBytes]

/-! Decoding -/

/-- Decoding a body of at least the type and the length field, followed by a checksum field (R136). -/
theorem decodeFrame_append (c : Config) {body tr : List Byte} (hbody : 3 ≤ body.length) (htr : tr.length = 4) :
    decodeFrame c (body ++ tr) =
      if (declaredLength body).toNat ≠ body.length - 3 then .lengthMismatch
      else if crc32 c body ≠ trailer tr 4 then .checksumMismatch
      else .ok (byteAt body 0) (body.drop 3) := by
  have hlen : (body ++ tr).length = body.length + 4 := by rw [List.length_append, htr]
  have hdeclared : declaredLength (body ++ tr) = declaredLength body := by
    rw [declaredLength, byteAt_append_left (by omega), byteAt_append_left (by omega), declaredLength]
  have htrailer : trailer (body ++ tr) (body.length + 4) = trailer tr 4 := by
    have hbyte := byteAt_append_right (xs := body) rfl tr
    rw [trailer, trailer, ← hbyte, ← hbyte, ← hbyte, ← hbyte]
    rfl
  rw [decodeFrame, hlen, if_neg (by omega), hdeclared, htrailer, Nat.add_sub_cancel, List.take_left,
    byteAt_append_left (by omega)]
  rfl

/-- One other byte in the content: the length check finds it in the length field, and the checksum elsewhere. -/
theorem decodeFrame_content_set {c : Config} (hpoly : c.crcPoly.getLsbD 0 = true) {t : Byte} {p : List Byte}
    (hp : p.length ≤ 65535) {i : Nat} {x : Byte} (hi : i < (content t p).length) (hx : x ≠ byteAt (content t p) i) :
    decodeFrame c ((content t p).set i x ++ checksumBytes (crc32 c (content t p))) =
      if i = 1 ∨ i = 2 then .lengthMismatch else .checksumMismatch := by
  have hlen := content_length t p
  rw [decodeFrame_append c (by rw [List.length_set]; omega) rfl, List.length_set, hlen, Nat.add_sub_cancel,
    trailer_checksumBytes, if_pos (crc32_set_ne hpoly hi hx)]
  by_cases hfield : i = 1 ∨ i = 2
  · have hdeclared : (declaredLength ((content t p).set i x)).toNat ≠ p.length := by
      intro heq
      have hbytes := congrArg lengthBytes (heq.trans (declaredLength_content t hp).symm)
      rw [lengthBytes_declaredLength, lengthBytes_declaredLength] at hbytes
      obtain ⟨hlow, hhigh⟩ : _ ∧ _ := by simpa using hbytes
      obtain rfl | rfl := hfield
      · exact hx ((byteAt_set_self hi x).symm.trans hlow)
      · exact hx ((byteAt_set_self hi x).symm.trans hhigh)
    rw [if_pos hdeclared, if_pos hfield]
  · obtain ⟨hne1, hne2⟩ := not_or.mp hfield
    have hdeclared : declaredLength ((content t p).set i x) = declaredLength (content t p) := by
      rw [declaredLength, byteAt_set_ne hne1, byteAt_set_ne hne2, declaredLength]
    rw [hdeclared, if_neg (not_not_intro (declaredLength_content t hp)), if_neg hfield]

/-- One other byte in the checksum field is another checksum than that of the content. -/
theorem decodeFrame_checksum_set (c : Config) {t : Byte} {p : List Byte} (hp : p.length ≤ 65535) {i : Nat} {x : Byte}
    (hi : i < 4) (hx : x ≠ byteAt (checksumBytes (crc32 c (content t p))) i) :
    decodeFrame c (content t p ++ (checksumBytes (crc32 c (content t p))).set i x) = .checksumMismatch := by
  have hlen := content_length t p
  have hset : ((checksumBytes (crc32 c (content t p))).set i x).length = 4 := List.length_set
  have hchecksum : crc32 c (content t p) ≠ trailer ((checksumBytes (crc32 c (content t p))).set i x) 4 := by
    intro heq
    have hbytes := congrArg checksumBytes heq
    rw [checksumBytes_trailer hset] at hbytes
    exact hx ((byteAt_set_self hi x).symm.trans (congrArg (byteAt · i) hbytes.symm))
  rw [decodeFrame_append c (by omega) hset, hlen, Nat.add_sub_cancel,
    if_neg (not_not_intro (declaredLength_content t hp)), if_pos hchecksum]

/-- R139, for any change of one byte: the byte is one of the content or one of the checksum field. -/
theorem decodeFrame_frame_set {c : Config} (hpoly : c.crcPoly.getLsbD 0 = true) {t : Byte} {p : List Byte}
    (hp : p.length ≤ 65535) {i : Nat} {x : Byte} (hi : i < p.length + 7) (hx : x ≠ byteAt (frame c t p) i) :
    decodeFrame c ((frame c t p).set i x) = if i = 1 ∨ i = 2 then .lengthMismatch else .checksumMismatch := by
  have hlen := content_length t p
  rw [frame_eq_append] at hx ⊢
  obtain hin | ⟨k, rfl⟩ : i < (content t p).length ∨ ∃ k, i = (content t p).length + k :=
    (Nat.lt_or_ge i _).imp_right Nat.exists_eq_add_of_le
  · rw [byteAt_append_left hin] at hx
    rw [List.set_append_left i x hin]
    exact decodeFrame_content_set hpoly hp hin hx
  · rw [byteAt_append_right rfl] at hx
    rw [List.set_append_right _ x (Nat.le_add_right _ _), Nat.add_sub_cancel_left, if_neg (by omega)]
    exact decodeFrame_checksum_set c hp (by omega) hx

/-- Settles O38: the default polynomial's constant term is 1, and a flipped bit is another byte. -/
theorem singleBitErrorsAreDetected : Obligations.SingleBitErrorsAreDetected := by
  intro c hc
  have hpoly : c.crcPoly.getLsbD 0 = true := by rw [hc]; decide
  exact ⟨fun bs i j hi hj => crc32_set_ne hpoly hi (xor_bit_ne _ hj), fun t p i j hp hi hj =>
    decodeFrame_frame_set hpoly (hp.trans c.maxPayload_le) hi (xor_bit_ne _ hj)⟩

end Sys2Proof.Machine
end

section
/-! Proofs of the obligations of 44_codec.md about frames: their layout (R130, R131), their stuffed form and its size (R134,
R141), and what `decode_frame` answers, of a frame (R138) and of any byte list (R136, R137). -/

namespace Sys2Proof.Machine

/-! The layout -/

/-- The low byte of the length, then its high byte. -/
theorem lengthBytes_eq_ofNat (n : Nat) : lengthBytes n = [BitVec.ofNat 8 n, BitVec.ofNat 8 (n / 256)] := by
  have hlow : (BitVec.ofNat 16 n).extractLsb' 0 8 = BitVec.ofNat 8 n := by
    apply BitVec.eq_of_toNat_eq
    simp only [BitVec.extractLsb'_toNat, BitVec.toNat_ofNat, Nat.shiftRight_zero]
    omega
  have hhigh : (BitVec.ofNat 16 n).extractLsb' 8 8 = BitVec.ofNat 8 (n / 256) := by
    apply BitVec.eq_of_toNat_eq
    simp only [BitVec.extractLsb'_toNat, BitVec.toNat_ofNat, Nat.shiftRight_eq_div_pow]
    omega
  exact congrArg₂ (fun a b => [a, b]) hlow hhigh

theorem content_eq_append (t : Byte) (p : List Byte) :
    content t p = [t, BitVec.ofNat 8 p.length, BitVec.ofNat 8 (p.length / 256)] ++ p := by
  rw [content, lengthBytes_eq_ofNat, List.cons_append]

theorem frame_length (c : Config) (t : Byte) (p : List Byte) : (frame c t p).length = p.length + 7 := by
  rw [frame, List.length_append, content_length]
  rfl

/-- Settles O39: the codec's accumulation is one pass over the content; stuffing is read off its definition. -/
theorem frameLayout : Obligations.FrameLayout :=
  ⟨fun c t p _ => ⟨content_eq_append t p, codecChecksum_eq_crc32 c t p, frame_eq_append c t p, frame_length c t p⟩,
    rfl, fun _ _ => rfl, rfl, rfl, fun _ _ _ => rfl⟩

/-! The sizes -/

/-- Stuffing adds one byte for each flag and each escape. -/
theorem stuff_length (bs : List Byte) : (stuff bs).length = bs.length + bs.countP (fun b => b = FLAG ∨ b = ESC) := by
  induction bs with
  | nil => rfl
  | cons b rest ih =>
    have hbyte : (stuffByte b).length = 1 + if b = FLAG ∨ b = ESC then 1 else 0 := by
      rw [stuffByte]
      split <;> rfl
    rw [stuff, List.length_append, hbyte, ih, List.length_cons, List.countP_cons]
    simp only [decide_eq_true_eq]
    omega

/-- The two flags add to the stuffed frame (R134). -/
theorem wire_length (c : Config) (t : Byte) (p : List Byte) : (wire c t p).length =
    p.length + 9 + (frame c t p).countP (fun b => b = FLAG ∨ b = ESC) := by
  rw [wire, List.length_append, List.length_append, stuff_length, frame_length, List.length_singleton]
  omega

/-- Settles O42: a frame holds at most as many flags and escapes as bytes. -/
theorem encodedSizes : Obligations.EncodedSizes := by
  intro c t p
  have hlen := frame_length c t p
  have hwire := wire_length c t p
  have hle := List.countP_le_length (p := fun b => b = FLAG ∨ b = ESC) (l := frame c t p)
  refine ⟨hlen, by omega, by omega, fun hall => ?_⟩
  have hcount : (frame c t p).countP (fun b => b = FLAG ∨ b = ESC) = (frame c t p).length :=
    List.countP_eq_length.mpr fun b hb => decide_eq_true (hall b hb)
  omega

/-! Decoding a frame -/

/-- Settles O40: the length field and the checksum field of a frame are right, so it decodes to its two parts. -/
theorem decodeOfFrame : Obligations.DecodeOfFrame := by
  intro c t p hp
  have hlen := content_length t p
  have hdeclared := declaredLength_content t (hp.trans c.maxPayload_le)
  rw [frame_eq_append, decodeFrame_append c (by omega) rfl, hlen, Nat.add_sub_cancel, if_neg (not_not_intro hdeclared),
    trailer_checksumBytes, if_neg (not_not_intro rfl)]
  rfl

/-! Decoding any byte list -/

/-- A byte above a field of `n` bits counts in units of `2 ^ n`. -/
theorem toNat_append_byte {n : Nat} (hi : Byte) (lo : BitVec n) : (hi ++ lo).toNat = lo.toNat + 2 ^ n * hi.toNat := by
  rw [BitVec.toNat_append, ← Nat.shiftLeft_add_eq_or_of_lt lo.isLt, Nat.shiftLeft_eq, Nat.add_comm, Nat.mul_comm]

/-- The declared length is little-endian (R60). -/
theorem toNat_declaredLength (f : List Byte) :
    (declaredLength f).toNat = (byteAt f 1).toNat + 256 * (byteAt f 2).toNat := by
  rw [declaredLength_eq_append, toNat_append_byte]
  rfl

/-- The trailer is little-endian (R60). -/
theorem toNat_trailer (f : List Byte) (m : Nat) : (trailer f m).toNat =
    (byteAt f (m - 4)).toNat + 2 ^ 8 * (byteAt f (m - 3)).toNat + 2 ^ 16 * (byteAt f (m - 2)).toNat +
      2 ^ 24 * (byteAt f (m - 1)).toNat := by
  have hfour : trailer f m = trailer [byteAt f (m - 4), byteAt f (m - 3), byteAt f (m - 2), byteAt f (m - 1)] 4 := rfl
  rw [hfour, trailer_eq_append, toNat_append_byte, toNat_append_byte, toNat_append_byte]
  rfl

/-- R137: a wrong length is the answer, whatever the checksum. -/
theorem decodeFrame_of_length_ne (c : Config) {f : List Byte}
    (h : f.length < 7 ∨ (declaredLength f).toNat ≠ f.length - 7) : decodeFrame c f = .lengthMismatch := by
  by_cases hshort : f.length < 7
  · exact if_pos hshort
  · exact (if_neg hshort).trans (if_pos (h.resolve_left hshort))

/-- With the length right, the checksum of all but the trailer against the trailer decides. -/
theorem decodeFrame_of_length_eq (c : Config) {f : List Byte} (hlen : 7 ≤ f.length)
    (h : (declaredLength f).toNat = f.length - 7) :
    decodeFrame c f =
      if crc32 c (f.take (f.length - 4)) = trailer f f.length then .ok (byteAt f 0) ((f.take (f.length - 4)).drop 3)
      else .checksumMismatch :=
  (if_neg hlen.not_gt).trans ((if_neg (not_not_intro h)).trans (ite_not ..))

/-- Settles O41: the two fields as numbers, and the checksum is the trailer iff their numbers agree. -/
theorem lengthIsCheckedFirst : Obligations.LengthIsCheckedFirst := by
  intro c f
  have hdeclared := toNat_declaredLength f
  have htrailer := toNat_trailer f f.length
  simp only [byteAt] at hdeclared htrailer
  rw [← hdeclared, ← htrailer]
  simp only [BitVec.toNat_inj]
  exact ⟨decodeFrame_of_length_ne c, decodeFrame_of_length_eq c⟩

end Sys2Proof.Machine
end

section
/-! Proof of the obligation of 44_codec.md about unstuffing (R135): what RX_BYTE does with a flag that opens a frame and with
the wire bytes of one stuffed byte, and from them, by induction, with the stuffed bytes of a list. -/

namespace Sys2Proof.Machine

/-- No stuffed byte is a flag: a flag goes out as an escape and 0x5E. -/
theorem flag_notMem_stuff (bs : List Byte) : FLAG ∉ stuff bs := by
  induction bs with
  | nil => exact List.not_mem_nil
  | cons b rest ih =>
    have hbyte : FLAG ∉ stuffByte b := by
      rw [stuffByte]
      split
      case isTrue hspecial =>
        obtain rfl | rfl := hspecial <;> decide
      case isFalse hplain => exact List.mem_singleton.not.mpr fun h => hplain (.inl h.symm)
    exact List.not_mem_append hbyte ih

/-- The state inside a frame, with the bytes `buf` received. -/
def State.receiving (s : State) (buf : List Byte) : State :=
  { s with blk := { s.blk with rxState := .data, rxBuf := buf, result := 0 } }

/-- The state inside a frame, with the bytes `buf` and then an escape received. -/
def State.escaping (s : State) (buf : List Byte) : State :=
  { s with blk := { s.blk with rxState := .esc, rxBuf := buf, result := 0 } }

/-! One byte -/

/-- An RX_BYTE without output changes `S` alone. -/
theorem exec_rxByte_of_silent {b : Byte} {s : State} {S : Block} (h : rxByteOp s.cfg b s.blk = (S, Out.empty)) :
    exec (.rxByte b) s = .next { s with blk := S } := by
  have hexec : exec (.rxByte b) s = .next (s.commit (rxByteOp s.cfg b s.blk)) := exec_eq_commit (.rxByte b) s
  rw [hexec, h, ← State.onBlock_eq_commit (fun _ => S)]
  rfl

/-- A flag opens a frame, in HUNT and between frames (R160, R161). -/
theorem rxByteOp_openingFlag (c : Config) {S : Block} (h : S.rxState = .hunt ∨ S.rxState = .data ∧ S.rxBuf = []) :
    rxByteOp c FLAG S = ({ S with rxState := .data, rxBuf := [], result := 0 }, Out.empty) := by
  obtain hhunt | ⟨hdata, hempty⟩ := h
  · rw [rxByteOp, hhunt]
    rfl
  · simp only [rxByteOp, rxData, consumed, Block.setResult, hdata, hempty, if_true]

/-- An escape is kept in the receive state, not in the buffer (R161). -/
theorem rxByteOp_escape (c : Config) {S : Block} (hdata : S.rxState = .data) :
    rxByteOp c ESC S = ({ S with rxState := .esc, result := 0 }, Out.empty) := by
  rw [rxByteOp, hdata]
  rfl

/-- While there is room, a byte is appended (R163). -/
theorem rxAppend_of_lt {c : Config} {S : Block} (x : Byte) (hroom : S.rxBuf.length < c.maxPayload + 7) :
    rxAppend c x S = consumed { S with rxBuf := S.rxBuf ++ [x] } :=
  if_neg fun hfull => hroom.ne (of_decide_eq_true hfull)

/-- While there is room, a byte other than a flag or an escape is appended, and after an escape any byte but a flag, XORed
with 0x20 (R161 to R163). -/
theorem rxByteOp_append {c : Config} {b x : Byte} {S : Block}
    (hx : S.rxState = .data ∧ b ≠ FLAG ∧ b ≠ ESC ∧ x = b ∨ S.rxState = .esc ∧ b ≠ FLAG ∧ x = b ^^^ XORV)
    (hroom : S.rxBuf.length < c.maxPayload + 7) :
    rxByteOp c b S = ({ S with rxState := .data, rxBuf := S.rxBuf ++ [x], result := 0 }, Out.empty) := by
  obtain ⟨hdata, hflag, hesc, rfl⟩ | ⟨hesc, hflag, rfl⟩ := hx
  · rw [rxByteOp, hdata]
    simp only [rxData, if_neg hflag, if_neg hesc, rxAppend_of_lt _ hroom, consumed, Block.setResult, hdata]
  · rw [rxByteOp, hesc]
    simp only [rxEsc, if_neg hflag, rxAppend_of_lt (S := { S with rxState := .data }) _ hroom, consumed, Block.setResult]

/-! The stuffed bytes -/

/-- The wire bytes of one byte give it back. -/
theorem execAll_stuffByte {s : State} {buf : List Byte} (b : Byte) (hroom : buf.length < s.cfg.maxPayload + 7) :
    execAll (rxBytes (stuffByte b)) (s.receiving buf) = .next (s.receiving (buf ++ [b])) := by
  rw [stuffByte]
  split
  case isFalse hplain =>
    obtain ⟨hflag, hesc⟩ := not_or.mp hplain
    exact execAll_cons (exec_rxByte_of_silent (rxByteOp_append (.inl ⟨rfl, hflag, hesc, rfl⟩) hroom)) []
  case isTrue hspecial =>
    have hescape : exec (.rxByte ESC) (s.receiving buf) = .next (s.escaping buf) :=
      exec_rxByte_of_silent (rxByteOp_escape s.cfg rfl)
    have hnotFlag : b ^^^ XORV ≠ FLAG := by obtain rfl | rfl := hspecial <;> decide
    have hundo : b = b ^^^ XORV ^^^ XORV := by rw [BitVec.xor_assoc, BitVec.xor_self, BitVec.xor_zero]
    have hescaped : exec (.rxByte (b ^^^ XORV)) (s.escaping buf) = .next (s.receiving (buf ++ [b])) :=
      exec_rxByte_of_silent (rxByteOp_append (.inr ⟨rfl, hnotFlag, hundo⟩) hroom)
    exact (execAll_cons hescape _).trans (execAll_cons hescaped [])

/-- The wire bytes of a list give it back behind the bytes received before, by induction on the list. -/
theorem execAll_stuff {s : State} {buf x : List Byte} (hroom : buf.length + x.length ≤ s.cfg.maxPayload + 7) :
    execAll (rxBytes (stuff x)) (s.receiving buf) = .next (s.receiving (buf ++ x)) := by
  induction x generalizing buf with
  | nil =>
    rw [List.append_nil]
    rfl
  | cons b rest ih =>
    rw [List.length_cons] at hroom
    have hrest := ih (buf := buf ++ [b]) (by rw [List.length_append, List.length_singleton]; omega)
    rw [List.append_assoc, List.singleton_append] at hrest
    rw [stuff, rxBytes, List.map_append]
    exact (execAll_append (execAll_stuffByte b (by omega)) _).trans hrest

/-- Settles O43: the opening flag empties the buffer, and the stuffed bytes fill it with theirs. -/
theorem unstuffingInvertsStuffing : Obligations.UnstuffingInvertsStuffing := by
  intro s x hx hidle
  have hopen : exec (.rxByte FLAG) s = .next (s.receiving []) :=
    exec_rxByte_of_silent (rxByteOp_openingFlag s.cfg hidle)
  refine ⟨flag_notMem_stuff x, (execAll_cons hopen _).trans (execAll_stuff (buf := []) ?_)⟩
  rwa [List.length_nil, Nat.zero_add]

end Sys2Proof.Machine
end

section
/-! Proofs of the obligations of 45_tx_fsm.md about single commands: INIT (R143), RUN by the rows of its transition table
(R144, R158), and SET_EXT_EVENT (R151). -/

namespace Sys2Proof.Machine

/-- Settles O45: INIT has one case. -/
theorem initCommand : Obligations.InitCommand := ⟨rfl, fun _ => rfl⟩

/-! RUN -/

/-- RUN commits its effect on the block. -/
theorem exec_run (s : State) : exec .run s = .next (s.commit (runOp s.cfg s.blk)) := rfl

/-- A command that appends nothing to the channels changes `S` alone. -/
theorem State.commit_silent (s : State) (S : Block) : s.commit (S, Out.empty) = { s with blk := S } := by
  simp only [State.commit, Out.empty, List.append_nil]

/-- A command that appends to TXD alone. -/
theorem State.commit_txdOnly (s : State) (S : Block) (bs : List Byte) :
    s.commit (S, { Out.empty with txd := bs }) = { s with blk := S, txd := s.txd ++ bs } := by
  simp only [State.commit, Out.empty, List.append_nil]

/-- A command that appends to REPORT alone. -/
theorem State.commit_reportOnly (s : State) (S : Block) (recs : List Report) :
    s.commit (S, { Out.empty with report := recs }) = { s with blk := S, report := s.report ++ recs } := by
  simp only [State.commit, Out.empty, List.append_nil]

/-- The three rows of POLL (R145, R146, R152). -/
theorem exec_run_of_poll {s : State} (hpoll : s.blk.txState = .poll) :
    (s.blk.q = [] → exec .run s = .next { s with blk := { s.blk with extEvt := .none, result := 0 } }) ∧
    (∀ r rest, s.blk.q = r :: rest → r.ackExpected = true → exec .run s = .next { s with
      blk := { s.blk with
        extEvt := .none, q := rest, retryCnt := 0, cur := some r, txState := .transmit, result := 1
        tmrDeadline := s.blk.now + BitVec.ofNat 32 s.cfg.ackTimeout, tmrArmed := true, tmrRaised := false }
      txd := s.txd ++ wire s.cfg r.type r.payload }) ∧
    (∀ r rest, s.blk.q = r :: rest → r.ackExpected = false → exec .run s = .next { s with
      blk := { s.blk with extEvt := .none, q := rest, retryCnt := 0, result := 5 }
      txd := s.txd ++ wire s.cfg r.type r.payload
      report := s.report ++ [{ code := 0x02, type := r.type, count := 1 }] }) := by
  rw [exec_run]
  rcases runOp_cases s.cfg s.blk with ⟨-, hq, hr⟩ | ⟨r, rest, -, hq, hack, hr⟩ | ⟨r, rest, -, hq, hack, hr⟩ |
    ⟨r, htx, -⟩ | ⟨r, htx, -⟩ | ⟨r, htx, -⟩ | ⟨htx, -⟩
  case inl =>
    rw [hr, State.commit_silent]
    exact ⟨fun _ => rfl, fun _ _ h => absurd (hq.symm.trans h) nofun, fun _ _ h => absurd (hq.symm.trans h) nofun⟩
  case inr.inl =>
    rw [hr, State.commit_txdOnly]
    refine ⟨fun h => absurd (hq.symm.trans h) nofun, fun _ _ h _ => ?_, fun _ _ h hno => ?_⟩ <;>
      obtain ⟨rfl, rfl⟩ := List.cons.inj (hq.symm.trans h)
    · rfl
    · exact absurd (hack.symm.trans hno) nofun
  case inr.inr.inl =>
    rw [hr]
    refine ⟨fun h => absurd (hq.symm.trans h) nofun, fun _ _ h hyes => ?_, fun _ _ h _ => ?_⟩ <;>
      obtain ⟨rfl, rfl⟩ := List.cons.inj (hq.symm.trans h)
    · exact absurd (hack.symm.trans hyes) nofun
    · simp only [State.commit, Out.empty, List.append_nil]
  all_goals exact absurd (hpoll.symm.trans htx) nofun

/-- The four rows of TRANSMIT, in the priority of R153 (R147 to R149, R152). -/
theorem exec_run_of_transmit {s : State} {r : Request} (htx : s.blk.txState = .transmit) (hcur : s.blk.cur = some r) :
    (s.blk.extEvt = .ack → exec .run s = .next { s with
      blk := { s.blk with
        extEvt := .none, retryCnt := 0, tmrArmed := false, cur := none, txState := .poll, result := 2 }
      report := s.report ++
        [{ code := 0x01, type := r.type, count := BitVec.ofNat 8 (s.blk.retryCnt.toNat + 1) }] }) ∧
    (s.blk.extEvt ≠ .ack → s.blk.extEvt = .nack ∨ s.blk.tmrRaised = true →
      s.blk.retryCnt.toNat + 1 ≤ s.cfg.maxRetries → exec .run s = .next { s with
      blk := { s.blk with
        extEvt := .none, retryCnt := BitVec.ofNat 8 (s.blk.retryCnt.toNat + 1), result := 3
        tmrDeadline := s.blk.now + BitVec.ofNat 32 s.cfg.ackTimeout, tmrArmed := true, tmrRaised := false }
      txd := s.txd ++ wire s.cfg r.type r.payload }) ∧
    (s.blk.extEvt ≠ .ack → s.blk.extEvt = .nack ∨ s.blk.tmrRaised = true →
      s.cfg.maxRetries < s.blk.retryCnt.toNat + 1 → exec .run s = .next { s with
      blk := { s.blk with
        extEvt := .none, retryCnt := 0, tmrArmed := false, cur := none, txState := .poll, result := 4
        err := s.blk.err ||| 0x08 }
      report := s.report ++
        [{ code := 0x03, type := r.type, count := BitVec.ofNat 8 (s.cfg.maxRetries + 1) }] }) ∧
    (s.blk.extEvt = .none → s.blk.tmrRaised = false →
      exec .run s = .next { s with blk := { s.blk with result := 0 } }) := by
  have hcurrent : ∀ r', s.blk.cur = some r' ∨ s.blk.cur = none → r' = r := fun r' h => by
    simpa [hcur, eq_comm] using h
  rw [exec_run]
  rcases runOp_cases s.cfg s.blk with ⟨hpoll, -⟩ | ⟨_, _, hpoll, -⟩ | ⟨_, _, hpoll, -⟩ | ⟨r', -, hr', hack, hr⟩ |
    ⟨r', -, hr', hnoAck, hfail, hbudget, hr⟩ | ⟨r', -, hr', hnoAck, hfail, hspent, hr⟩ | ⟨-, hnone, hlow, hr⟩
  case inr.inr.inr.inl =>
    obtain rfl := hcurrent r' hr'
    have hcount : s.blk.retryCnt + 1 = BitVec.ofNat 8 (s.blk.retryCnt.toNat + 1) := by
      rw [BitVec.ofNat_add, BitVec.ofNat_toNat, BitVec.setWidth_eq]
      rfl
    rw [hr, State.commit_reportOnly, hcount]
    exact ⟨fun _ => rfl, fun h => absurd hack h, fun h => absurd hack h, fun h => absurd (hack.symm.trans h) nofun⟩
  case inr.inr.inr.inr.inl =>
    obtain rfl := hcurrent r' hr'
    rw [hr, State.commit_txdOnly]
    exact ⟨fun h => absurd h hnoAck, fun _ _ _ => rfl, fun _ _ hspent => absurd hbudget (by omega),
      fun hnone hlow => by simp [hnone, hlow] at hfail⟩
  case inr.inr.inr.inr.inr.inl =>
    obtain rfl := hcurrent r' hr'
    rw [hr, State.commit_reportOnly]
    exact ⟨fun h => absurd h hnoAck, fun _ _ hbudget => absurd hbudget (by omega), fun _ _ _ => rfl,
      fun hnone hlow => by simp [hnone, hlow] at hfail⟩
  case inr.inr.inr.inr.inr.inr =>
    rw [hr, State.commit_silent, ← hnone]
    have hidle : ¬(s.blk.extEvt = .nack ∨ s.blk.tmrRaised = true) := by simp [hnone, hlow]
    exact ⟨fun h => absurd (hnone.symm.trans h) nofun, fun _ h => absurd h hidle, fun _ h => absurd h hidle,
      fun _ _ => rfl⟩
  all_goals exact absurd (hpoll.symm.trans htx) nofun

/-- Settles O46: the rows of POLL, where I3 keeps the counter at 0, and those of TRANSMIT, where I2 gives a request. -/
theorem runTransitionTable : Obligations.RunTransitionTable := by
  refine ⟨rfl, fun s ⟨_, hcurIff, ⟨_, hzero⟩, _⟩ => ⟨fun hpoll hq => ?_, fun r rest hpoll hq hack => ?_,
    fun r rest hpoll hq hack => ?_, fun htx => Option.ne_none_iff_exists'.mp (hcurIff.mpr htx), fun r htx hcur => ?_,
    fun r htx hcur => ?_, fun r htx hcur => ?_, fun htx => ?_⟩⟩
  · obtain ⟨hempty, -, -⟩ := exec_run_of_poll hpoll
    rw [hempty hq, ← hzero hpoll]
  · obtain ⟨-, hsend, -⟩ := exec_run_of_poll hpoll
    exact hsend r rest hq hack
  · obtain ⟨-, -, hsend⟩ := exec_run_of_poll hpoll
    exact hsend r rest hq hack
  · obtain ⟨hdeliver, -, -, -⟩ := exec_run_of_transmit htx hcur
    exact hdeliver
  · obtain ⟨-, hretry, -, -⟩ := exec_run_of_transmit htx hcur
    exact hretry
  · obtain ⟨-, -, habandon, -⟩ := exec_run_of_transmit htx hcur
    exact habandon
  · obtain ⟨r, hcur⟩ := Option.ne_none_iff_exists'.mp (hcurIff.mpr htx)
    obtain ⟨-, -, -, hidle⟩ := exec_run_of_transmit htx hcur
    exact hidle

/-- Settles O47: by RUN's seven outcomes, with or without a current request. -/
theorem runTakesAtMostOneTransition : Obligations.RunTakesAtMostOneTransition := by
  intro s
  refine ⟨_, exec_run s, ?_⟩
  rcases runOp_cases s.cfg s.blk with ⟨-, -, hr⟩ | ⟨r, rest, hpoll, hq, -, hr⟩ | ⟨r, rest, hpoll, hq, -, hr⟩ |
    ⟨r, -, -, -, hr⟩ | ⟨r, -, -, -, -, -, hr⟩ | ⟨r, -, -, -, -, -, hr⟩ | ⟨-, -, -, hr⟩ <;> rw [hr]
  · exact ⟨rfl, .inl (List.append_nil _), .inl rfl, .inl (List.append_nil _), List.append_nil _⟩
  · exact ⟨rfl, .inr ⟨_, _, rfl⟩, .inr ⟨hpoll, r, hq⟩, .inl (List.append_nil _), List.append_nil _⟩
  · exact ⟨rfl, .inr ⟨_, _, rfl⟩, .inr ⟨hpoll, r, hq⟩, .inr ⟨_, rfl⟩, List.append_nil _⟩
  · exact ⟨rfl, .inl (List.append_nil _), .inl rfl, .inr ⟨_, rfl⟩, List.append_nil _⟩
  · exact ⟨rfl, .inr ⟨_, _, rfl⟩, .inl rfl, .inl (List.append_nil _), List.append_nil _⟩
  · exact ⟨rfl, .inl (List.append_nil _), .inl rfl, .inr ⟨_, rfl⟩, List.append_nil _⟩
  · exact ⟨rfl, .inl (List.append_nil _), .inl rfl, .inl (List.append_nil _), List.append_nil _⟩

/-! SET_EXT_EVENT -/

/-- In POLL the consumed event is not looked at (R152). -/
theorem runOp_extEvt_of_poll (c : Config) {S : Block} (hpoll : S.txState = .poll) (e : ExtEvent) :
    runOp c { S with extEvt := e } = runOp c S := by
  simp only [runOp, hpoll]

/-- SET_EXT_EVENT on the block, by whether the mailbox was empty (R150, R151). -/
theorem setExtEventOp_eq (ev : ExtEvent) (S : Block) : setExtEventOp ev S = { S with
    extEvt := ev
    err := if S.extEvt = .none then S.err else S.err ||| 0x40
    result := if S.extEvt = .none then 0 else 1 } := by
  by_cases hempty : S.extEvt = .none
  · have hfull : S.mailboxFull = false := by simp [Block.mailboxFull, hempty]
    simp only [setExtEventOp, Block.postExt, hfull, if_pos hempty]
    rfl
  · have hfull : S.mailboxFull = true := S.mailboxFull_iff.mpr hempty
    simp only [setExtEventOp, Block.postExt, hfull, if_neg hempty]
    rfl

/-- SET_EXT_EVENT ACK changes `S` alone. -/
theorem exec_setExtEventAck (s : State) : exec .setExtEventAck s = .next (s.onBlock (setExtEventOp .ack)) := rfl

/-- SET_EXT_EVENT NACK changes `S` alone. -/
theorem exec_setExtEventNack (s : State) : exec .setExtEventNack s = .next (s.onBlock (setExtEventOp .nack)) := rfl

/-- Settles O48: the mailbox write for both events; the other selectors have no row. -/
theorem setExtEventCommands : Obligations.SetExtEventCommands := by
  refine ⟨rfl, rfl, fun w hop hack hnack => (decode_error_iff_of_setExtEvent hop).mpr (.inl ⟨hack, hnack⟩),
    fun s e hpoll => ?_, fun s => ?_, fun s => ?_, _, _, exec_setExtEventAck _, rfl, rfl, exec_setExtEventNack _, rfl, rfl,
    rfl⟩
  · simp only [exec_run, runOp_extEvt_of_poll _ hpoll, State.commit]
  · rw [exec_setExtEventAck, State.onBlock, setExtEventOp_eq]
  · rw [exec_setExtEventNack, State.onBlock, setExtEventOp_eq]

end Sys2Proof.Machine
end

section
/-! Proof of the obligation of 45_tx_fsm.md about attempt counting (R155). The current request with its retry counter is kept by
every command but RUN, RESET and INIT, and RUN resends, delivers or abandons it by what it sees; the counts follow by
induction over the commands and over the rounds. -/

namespace Sys2Proof.Machine

/-! What the current request's transfer is, and what a part of a run puts out for it -/

/-- In TRANSMIT with the current request `r`, resent `k` times (R23, R25, R26). -/
structure Block.Awaits (r : Request) (k : Nat) (S : Block) : Prop where
  transmit : S.txState = .transmit
  cur : S.cur = some r
  count : S.retryCnt.toNat = k

/-- No answer has come: the mailbox is empty, and the timer runs with `d` ticks to its deadline (R98). -/
structure Block.Unanswered (d : Nat) (S : Block) : Prop where
  mailbox : S.extEvt = .none
  armed : S.tmrArmed = true
  low : S.tmrRaised = false
  deadline : S.tmrDeadline = S.now + BitVec.ofNat 32 d

/-- Back in POLL without a current request (R147, R149). -/
structure Block.Resolved (S : Block) : Prop where
  poll : S.txState = .poll
  cur : S.cur = none
  count : S.retryCnt = 0

/-- The record of a request delivered after `j` transmissions (R147). -/
def Request.delivered (r : Request) (j : Nat) : Report := { code := 0x01, type := r.type, count := BitVec.ofNat 8 j }

/-- The record of an abandoned request (R149). -/
def Request.failed (c : Config) (r : Request) : Report :=
  { code := 0x03, type := r.type, count := BitVec.ofNat 8 (c.maxRetries + 1) }

/-- From `s` to `t` TXD got `m` copies of `r` and REPORT the records `recs`; the parameters and the queue stay. -/
structure Emits (r : Request) (m : Nat) (recs : List Report) (s t : State) : Prop where
  cfg : t.cfg = s.cfg
  queue : t.blk.q = s.blk.q
  txd : t.txd = s.txd ++ copies m (r.wire s.cfg)
  report : t.report = s.report ++ recs

theorem copies_one (bs : List Byte) : copies 1 bs = bs := List.append_nil bs

theorem copies_add (m n : Nat) (bs : List Byte) : copies (m + n) bs = copies m bs ++ copies n bs := by
  rw [copies, List.replicate_add, List.flatten_append]
  rfl

/-- A part that leaves the channels alone. -/
theorem Emits.of_silent (r : Request) {s t : State} (hcfg : t.cfg = s.cfg) (hq : t.blk.q = s.blk.q) (htxd : t.txd = s.txd)
    (hreport : t.report = s.report) : Emits r 0 [] s t :=
  ⟨hcfg, hq, htxd.trans (List.append_nil _).symm, hreport.trans (List.append_nil _).symm⟩

/-- Two parts one after the other. -/
theorem Emits.trans {r : Request} {m n : Nat} {recs recs' : List Report} {s t u : State} (h : Emits r m recs s t)
    (h' : Emits r n recs' t u) : Emits r (m + n) (recs ++ recs') s u := by
  refine ⟨h'.cfg.trans h.cfg, h'.queue.trans h.queue, ?_, ?_⟩
  · rw [h'.txd, h.txd, h.cfg, copies_add, List.append_assoc]
  · rw [h'.report, h.report, List.append_assoc]

/-! What a RUN sees -/

theorem State.seesAck_iff (s : State) : s.seesAck = true ↔ s.blk.txState = .transmit ∧ s.blk.extEvt = .ack := by
  simp only [State.seesAck, Bool.and_eq_true, decide_eq_true_eq]

/-- A failure is a NACK, or a timeout that no acknowledgement overrides (R153). -/
theorem State.seesFailure_iff (s : State) : s.seesFailure = true ↔
    s.blk.txState = .transmit ∧ s.blk.extEvt ≠ .ack ∧ (s.blk.extEvt = .nack ∨ s.blk.tmrRaised = true) := by
  simp only [State.seesFailure, Bool.and_eq_true, Bool.or_eq_true, decide_eq_true_eq]
  cases s.blk.extEvt <;> simp

/-- A RUN in TRANSMIT that sees neither finds no event at all. -/
theorem Block.Awaits.no_event {r : Request} {k : Nat} {s : State} (h : s.blk.Awaits r k) (hack : s.seesAck = false)
    (hfail : s.seesFailure = false) : s.blk.extEvt = .none ∧ s.blk.tmrRaised = false := by
  have hnoAck : s.blk.extEvt ≠ .ack := fun he => by
    rw [s.seesAck_iff.mpr ⟨h.transmit, he⟩] at hack
    cases hack
  have hno : ¬(s.blk.extEvt = .nack ∨ s.blk.tmrRaised = true) := fun he => by
    rw [s.seesFailure_iff.mpr ⟨h.transmit, hnoAck, he⟩] at hfail
    cases hfail
  obtain ⟨hnoNack, hlow⟩ := not_or.mp hno
  refine ⟨?_, eq_false_of_ne_true hlow⟩
  cases he : s.blk.extEvt with
  | none => rfl
  | ack => exact absurd he hnoAck
  | nack => exact absurd he hnoNack

/-! RUN on the current request -/

/-- The RUN that sends the first copy (R145): `r` leaves the queue and becomes the current request. -/
theorem exec_run_sends {s : State} {r : Request} {rest : List Request} (hpoll : s.blk.txState = .poll)
    (hq : s.blk.q = r :: rest) (hack : r.ackExpected = true) : ∃ t, exec .run s = .next t ∧
    Emits r 1 [] { s with blk := { s.blk with q := rest } } t ∧ t.blk.Awaits r 0 ∧ t.blk.Unanswered s.cfg.ackTimeout := by
  obtain ⟨-, hsend, -⟩ := exec_run_of_poll hpoll
  refine ⟨_, hsend r rest hq hack, ⟨rfl, rfl, ?_, (List.append_nil _).symm⟩, ⟨rfl, rfl, rfl⟩, ⟨rfl, rfl, rfl, rfl⟩⟩
  rw [copies_one]
  rfl

section
variable {r : Request} {k : Nat} {s : State}

/-- A RUN that sees an acknowledgement delivers the request (R147). -/
theorem exec_run_delivers_current (h : s.blk.Awaits r k) (hsees : s.seesAck = true) : ∃ t, exec .run s = .next t ∧
    Emits r 0 [r.delivered (k + 1)] s t ∧ t.blk.Resolved := by
  obtain ⟨htx, hcur, rfl⟩ := h
  obtain ⟨-, hack⟩ := s.seesAck_iff.mp hsees
  obtain ⟨hdeliver, -, -, -⟩ := exec_run_of_transmit htx hcur
  exact ⟨_, hdeliver hack, ⟨rfl, rfl, (List.append_nil _).symm, rfl⟩, rfl, rfl, rfl⟩

/-- A RUN that sees a failure within the budget sends one more copy and starts the timer again (R148). -/
theorem exec_run_resends (h : s.blk.Awaits r k) (hsees : s.seesFailure = true) (hbudget : k + 1 ≤ s.cfg.maxRetries) :
    ∃ t, exec .run s = .next t ∧ Emits r 1 [] s t ∧ t.blk.Awaits r (k + 1) ∧ t.blk.Unanswered s.cfg.ackTimeout ∧
      t.blk.now = s.blk.now := by
  obtain ⟨htx, hcur, rfl⟩ := h
  obtain ⟨-, hnoAck, hfail⟩ := s.seesFailure_iff.mp hsees
  obtain ⟨-, hretry, -, -⟩ := exec_run_of_transmit htx hcur
  have hmax := s.cfg.maxRetries_le
  have hcount : (BitVec.ofNat 8 (s.blk.retryCnt.toNat + 1)).toNat = s.blk.retryCnt.toNat + 1 := by
    rw [BitVec.toNat_ofNat]
    omega
  refine ⟨_, hretry hnoAck hfail hbudget, ⟨rfl, rfl, ?_, (List.append_nil _).symm⟩, ⟨htx, hcur, hcount⟩,
    ⟨rfl, rfl, rfl, rfl⟩, rfl⟩
  rw [copies_one]
  rfl

/-- A RUN that sees a failure with the budget spent abandons the request (R149). -/
theorem exec_run_abandons (h : s.blk.Awaits r k) (hsees : s.seesFailure = true) (hspent : k = s.cfg.maxRetries) :
    ∃ t, exec .run s = .next t ∧ Emits r 0 [r.failed s.cfg] s t ∧ t.blk.Resolved ∧ t.blk.err.getLsbD 3 = true := by
  obtain ⟨htx, hcur, rfl⟩ := h
  obtain ⟨-, hnoAck, hfail⟩ := s.seesFailure_iff.mp hsees
  obtain ⟨-, -, habandon, -⟩ := exec_run_of_transmit htx hcur
  have hbit : (s.blk.err ||| 0x08).getLsbD 3 = true := by
    rw [BitVec.getLsbD_or, show (0x08 : Byte).getLsbD 3 = true from rfl, Bool.or_true]
  exact ⟨_, habandon hnoAck hfail (by omega), ⟨rfl, rfl, (List.append_nil _).symm, rfl⟩, ⟨rfl, rfl, rfl⟩, hbit⟩

/-- A RUN that finds no event only answers 0 (R152). -/
theorem exec_run_idle (h : s.blk.Awaits r k) (hnone : s.blk.extEvt = .none) (hlow : s.blk.tmrRaised = false) :
    exec .run s = .next { s with blk := { s.blk with result := 0 } } := by
  obtain ⟨-, -, -, hidle⟩ := exec_run_of_transmit h.transmit h.cur
  exact hidle hnone hlow

end

/-! The other commands on the current request -/

/-- TICK keeps the transfer. -/
theorem tickOp_awaits {r : Request} {k : Nat} {S : Block} (h : S.Awaits r k) : (tickOp S).Awaits r k := by
  obtain ⟨htx, hcur, hcount⟩ := h
  rcases tickOp_cases S with ⟨-, -, ht⟩ | ⟨-, ht⟩ <;> rw [ht] <;> exact ⟨htx, hcur, hcount⟩

/-- The mailbox write keeps the transfer (R151: "the transition happens at the next RUN"). -/
theorem Block.postExt_awaits {r : Request} {k : Nat} {S : Block} (h : S.Awaits r k) (ev : ExtEvent) :
    (S.postExt ev).2.Awaits r k :=
  ⟨(S.postExt_txState ev).trans h.transmit, (S.postExt_cur ev).trans h.cur,
    (congrArg BitVec.toNat (S.postExt_retryCnt ev)).trans h.count⟩

/-- SET_EXT_EVENT keeps the transfer. -/
theorem setExtEventOp_awaits {r : Request} {k : Nat} {S : Block} (h : S.Awaits r k) (ev : ExtEvent) :
    (setExtEventOp ev S).Awaits r k := by
  obtain ⟨htx, hcur, hcount⟩ := Block.postExt_awaits h ev
  exact ⟨htx, hcur, hcount⟩

/-- STAGE_BYTE keeps the transfer. -/
theorem stageByteOp_awaits {r : Request} {k : Nat} {S : Block} (h : S.Awaits r k) (c : Config) (b : Byte) :
    (stageByteOp c b S).Awaits r k := by
  obtain ⟨htx, hcur, hcount⟩ := h
  rcases stageByteOp_cases c b S with ⟨-, hb⟩ | ⟨-, hb⟩ <;> rw [hb] <;> exact ⟨htx, hcur, hcount⟩

/-- ENQUEUE and SEND_DEBUG keep the transfer. -/
theorem Block.enqueue_awaits {r : Request} {k : Nat} {S : Block} (h : S.Awaits r k) (c : Config) (t : Byte) (a : Bool) :
    (Block.enqueue c t a S).Awaits r k :=
  ⟨(Block.enqueue_txState c t a S).trans h.transmit, (Block.enqueue_cur c t a S).trans h.cur,
    (congrArg BitVec.toNat (Block.enqueue_retryCnt c t a S)).trans h.count⟩

/-- The close of a received frame keeps the transfer: an ACK or NACK frame goes to the mailbox (R165). -/
theorem endOfFrame_awaits {r : Request} {k : Nat} {S : Block} (h : S.Awaits r k) (c : Config) (f : List Byte) :
    (endOfFrame c f S).blk.Awaits r k := by
  obtain ⟨htx, hcur, hcount⟩ := id h
  rcases endOfFrame_cases c f S with ⟨-, he⟩ | ⟨-, he⟩ | ⟨p, -, he⟩ | ⟨p, -, he⟩ | ⟨t, p, -, -, -, he⟩ <;> rw [he]
  case inr.inr.inl => exact Block.postExt_awaits h .ack
  case inr.inr.inr.inl => exact Block.postExt_awaits h .nack
  all_goals exact ⟨htx, hcur, hcount⟩

/-- RX_BYTE keeps the transfer. -/
theorem rxByteOp_awaits {r : Request} {k : Nat} {S : Block} (h : S.Awaits r k) (c : Config) (b : Byte) :
    (rxByteOp c b S).1.Awaits r k := by
  obtain ⟨htx, hcur, hcount⟩ := id h
  rcases rxByteOp_cases c b S with ⟨-, -, hr⟩ | ⟨-, -, hr⟩ | ⟨-, -, -, hr⟩ | ⟨-, -, -, hr⟩ | ⟨-, -, -, hr⟩ |
    ⟨-, -, hr⟩ | ⟨x, -, -, hr⟩ | ⟨-, -, hr⟩ <;> rw [hr]
  case inr.inr.inr.inl =>
    obtain ⟨htx', hcur', hcount'⟩ := endOfFrame_awaits h c S.rxBuf
    exact ⟨htx', hcur', hcount'⟩
  all_goals exact ⟨htx, hcur, hcount⟩

/-- No command but RUN, RESET and INIT touches the current request, its state or its counter (R157). -/
theorem commandEffect_awaits {r : Request} {k : Nat} {S : Block} (h : S.Awaits r k) {i : Instr} (hrun : i ≠ .run)
    (hreset : i ≠ .reset) (hinit : i ≠ .init) (c : Config) : (commandEffect c S i).1.Awaits r k := by
  obtain ⟨htx, hcur, hcount⟩ := id h
  cases i with
  | run => exact absurd rfl hrun
  | reset => exact absurd rfl hreset
  | init => exact absurd rfl hinit
  | tick => exact tickOp_awaits h
  | setExtEventAck => exact setExtEventOp_awaits h .ack
  | setExtEventNack => exact setExtEventOp_awaits h .nack
  | stageByte b => exact stageByteOp_awaits h c b
  | enqueue t a => exact Block.enqueue_awaits h c t a
  | sendDebug a => exact Block.enqueue_awaits h c c.typeDebug a
  | rxByte b => exact rxByteOp_awaits h c b
  | nop | stageClear | crcInit | crcByte _ | crcRead | clrErr _ => exact ⟨htx, hcur, hcount⟩

/-! Any commands after the first copy -/

/-- A wire frame is not empty (R134). -/
theorem Request.wire_ne_nil (c : Config) (r : Request) : r.wire c ≠ [] := nofun

/-- What a RUN shows of copies and records is what it put out. -/
theorem Emits.seen {r : Request} {m : Nat} {recs : List Report} {s t : State} (h : Emits r m recs s t) (hm : m ≤ 1) :
    copyBy .run s t = List.replicate m (r.wire s.cfg) ∧ reportsBy .run s t = recs := by
  obtain ⟨-, -, htxd, hreport⟩ := h
  constructor
  · obtain rfl | rfl : m = 0 ∨ m = 1 := by omega
    · simp [copyBy, htxd, copies]
    · have hpos := List.length_pos_iff.mpr (r.wire_ne_nil s.cfg)
      simp [copyBy, htxd, copies_one, hpos]
  · simp only [reportsBy, if_true, hreport, List.drop_left]

/-- One command but RESET and INIT that is no RUN seeing an acknowledgement: the request stays current, and the command sends a
copy exactly if it is a RUN that sees a failure. -/
theorem exec_awaits {r : Request} {k : Nat} {s : State} (h : s.blk.Awaits r k) {i : Instr} (hreset : i ≠ .reset)
    (hinit : i ≠ .init) : ∃ t, exec i s = .next t ∧ t.cfg = s.cfg ∧ (ackSeen i s t = [] →
      k + (failureSeen i s t).length ≤ s.cfg.maxRetries → t.blk.Awaits r (k + (failureSeen i s t).length) ∧
      copyBy i s t = List.replicate (failureSeen i s t).length (r.wire s.cfg) ∧ reportsBy i s t = []) := by
  refine ⟨_, exec_eq_commit i s, rfl, fun hack hbudget => ?_⟩
  by_cases hrun : i = .run
  · subst hrun
    have hnoAck : s.seesAck = false := by simpa [ackSeen] using hack
    cases hfail : s.seesFailure with
    | true =>
      have hone : ∀ t, failureSeen .run s t = [.run] := fun t => by simp [failureSeen, hfail]
      rw [hone] at hbudget ⊢
      obtain ⟨t, ht, hemits, hawaits, -⟩ := exec_run_resends h hfail hbudget
      obtain rfl := eq_commit_of_exec ht
      exact ⟨hawaits, hemits.seen le_rfl⟩
    | false =>
      have hnil : ∀ t, failureSeen .run s t = [] := fun t => by simp [failureSeen, hfail]
      rw [hnil]
      obtain ⟨hnone, hlow⟩ := h.no_event hnoAck hfail
      rw [← eq_commit_of_exec (exec_run_idle h hnone hlow)]
      exact ⟨⟨h.transmit, h.cur, h.count⟩, (Emits.of_silent r rfl rfl rfl rfl).seen zero_le_one⟩
  · simp only [failureSeen, copyBy, reportsBy, hrun, false_and, if_false]
    exact ⟨commandEffect_awaits h hrun hreset hinit s.cfg, rfl, trivial⟩

/-- Any commands but RESET and INIT, no acknowledgement seen and the failures within the budget, by induction on the commands:
as many copies as failures, and no record. -/
theorem execAll_awaits {r : Request} {k : Nat} {cs : List Instr} (hreset : .reset ∉ cs) (hinit : .init ∉ cs) {s : State}
    (h : s.blk.Awaits r k) (hack : trace ackSeen cs s = [])
    (hbudget : k + (trace failureSeen cs s).length ≤ s.cfg.maxRetries) : ∃ u, execAll cs s = .next u ∧ u.cfg = s.cfg ∧
      u.blk.Awaits r (k + (trace failureSeen cs s).length) ∧
      trace copyBy cs s = List.replicate (trace failureSeen cs s).length (r.wire s.cfg) ∧ trace reportsBy cs s = [] := by
  induction cs generalizing s k with
  | nil => exact ⟨s, rfl, rfl, h, rfl, rfl⟩
  | cons i rest ih =>
    obtain ⟨hi, hreset⟩ := List.ne_and_not_mem_of_not_mem_cons hreset
    obtain ⟨hi', hinit⟩ := List.ne_and_not_mem_of_not_mem_cons hinit
    obtain ⟨t, hexec, hcfg, hstep⟩ := exec_awaits h hi.symm hi'.symm
    rw [trace_cons _ hexec] at hack hbudget ⊢
    rw [trace_cons _ hexec, trace_cons _ hexec]
    obtain ⟨hackHead, hackRest⟩ := List.append_eq_nil_iff.mp hack
    rw [List.length_append] at hbudget ⊢
    obtain ⟨hawaits, hcopy, hreports⟩ := hstep hackHead (by omega)
    obtain ⟨u, hrun, hcfg', hawaits', hcopy', hreports'⟩ := ih hreset hinit hawaits hackRest (by rw [hcfg]; omega)
    refine ⟨u, (execAll_cons hexec rest).trans hrun, hcfg'.trans hcfg, by rwa [← Nat.add_assoc], ?_, ?_⟩
    · rw [hcopy, hcopy', hcfg, List.replicate_add]
    · rw [hreports, hreports']
      rfl

/-- The first clause of R155: the RUN that sends the request, then any commands. -/
theorem execAll_run_awaits {s : State} {r : Request} {rest : List Request} {cs : List Instr}
    (hpoll : s.blk.txState = .poll) (hq : s.blk.q = r :: rest) (hexpected : r.ackExpected = true) (hreset : .reset ∉ cs)
    (hinit : .init ∉ cs) (hack : trace ackSeen (.run :: cs) s = [])
    (hbudget : (trace failureSeen (.run :: cs) s).length ≤ s.cfg.maxRetries) :
    ∃ u, execAll (.run :: cs) s = .next u ∧ u.cfg = s.cfg ∧
      u.blk.Awaits r (trace failureSeen (.run :: cs) s).length ∧
      trace copyBy (.run :: cs) s = List.replicate ((trace failureSeen (.run :: cs) s).length + 1) (r.wire s.cfg) ∧
      trace reportsBy (.run :: cs) s = [] := by
  obtain ⟨t, hexec, hemits, hawaits, -⟩ := exec_run_sends hpoll hq hexpected
  have hcfg : t.cfg = s.cfg := hemits.cfg
  have hnoAck : ackSeen .run s t = [] := by simp [ackSeen, State.seesAck, hpoll]
  have hnoFailure : failureSeen .run s t = [] := by simp [failureSeen, State.seesFailure, hpoll]
  obtain ⟨hcopy, hreports⟩ : copyBy .run s t = [r.wire s.cfg] ∧ reportsBy .run s t = [] := hemits.seen le_rfl
  rw [trace_cons _ hexec, hnoAck, List.nil_append] at hack
  rw [trace_cons _ hexec, hnoFailure, List.nil_append] at hbudget ⊢
  rw [trace_cons _ hexec, trace_cons _ hexec, hcopy, hreports]
  obtain ⟨u, hrun, hcfg', hawaits', hcopy', hreports'⟩ :=
    execAll_awaits hreset hinit hawaits hack (by rwa [hcfg, Nat.zero_add])
  rw [Nat.zero_add] at hawaits'
  refine ⟨u, (execAll_cons hexec cs).trans hrun, hcfg'.trans hcfg, hawaits', ?_, hreports'⟩
  rw [hcopy', hcfg, List.replicate_succ, List.singleton_append]

/-! Rounds without an acknowledgement -/

/-- The ticks of one timeout raise the timer and leave the mailbox empty (R101): the next RUN sees a failure. -/
theorem execAll_ticks_timeout {r : Request} {k : Nat} {s : State} (h : s.blk.Awaits r k)
    (htmr : s.blk.Unanswered s.cfg.ackTimeout) :
    ∃ u, execAll (List.replicate (max 1 s.cfg.ackTimeout) .tick) s = .next u ∧ u.blk.Awaits r k ∧
      u.seesFailure = true ∧ Emits r 0 [] s u := by
  obtain ⟨hmailbox, harmed, hlow, hdeadline⟩ := htmr
  have hd := s.cfg.ackTimeout_lt
  refine ⟨_, execAll_ticks (by omega) harmed hlow hdeadline _, ⟨h.transmit, h.cur, h.count⟩, ?_,
    .of_silent r rfl rfl rfl rfl⟩
  have hnoAck : s.blk.extEvt ≠ .ack := hmailbox ▸ nofun
  exact (State.seesFailure_iff _).mpr ⟨h.transmit, hnoAck, .inr (decide_eq_true (max_comm _ _).le)⟩

/-- The commands of a round before its RUN. -/
def unackedEvents (c : Config) : Bool → List Instr
  | true => [.setExtEventNack]
  | false => List.replicate (max 1 c.ackTimeout) .tick

theorem unackedRound_eq (c : Config) (b : Bool) : unackedRound c b = unackedEvents c b ++ [.run] := by
  cases b <;> rfl

/-- A round's events do fail: its RUN sees a NACK or a timeout. -/
theorem execAll_unackedEvents {r : Request} {k : Nat} {s : State} (h : s.blk.Awaits r k)
    (htmr : s.blk.Unanswered s.cfg.ackTimeout) (b : Bool) :
    ∃ u, execAll (unackedEvents s.cfg b) s = .next u ∧ u.blk.Awaits r k ∧ u.seesFailure = true ∧ Emits r 0 [] s u := by
  cases b with
  | true =>
    have hawaits := setExtEventOp_awaits h .nack
    refine ⟨_, execAll_cons (exec_setExtEventNack s) [], hawaits, ?_,
      .of_silent r rfl (Block.postExt_q .nack s.blk) rfl rfl⟩
    exact (State.seesFailure_iff _).mpr ⟨hawaits.transmit, nofun, .inl rfl⟩
  | false => exact execAll_ticks_timeout h htmr

/-- A round within the budget sends one more copy. -/
theorem execAll_unackedRound {r : Request} {k : Nat} {s : State} (h : s.blk.Awaits r k)
    (htmr : s.blk.Unanswered s.cfg.ackTimeout) (b : Bool) (hbudget : k + 1 ≤ s.cfg.maxRetries) :
    ∃ t, execAll (unackedRound s.cfg b) s = .next t ∧ Emits r 1 [] s t ∧ t.blk.Awaits r (k + 1) ∧
      t.blk.Unanswered t.cfg.ackTimeout := by
  obtain ⟨u, hevents, hawaits, hfail, hemits⟩ := execAll_unackedEvents h htmr b
  obtain ⟨t, hexec, hemits', hawaits', htmr', -⟩ := exec_run_resends hawaits hfail (by rwa [hemits.cfg])
  rw [unackedRound_eq]
  refine ⟨t, (execAll_append hevents _).trans (execAll_cons hexec []), hemits.trans hemits', hawaits', ?_⟩
  rwa [hemits'.cfg]

/-- Rounds within the budget, by induction on them: one more copy each, and no record. -/
theorem execAll_unackedRounds {r : Request} {k : Nat} {s : State} (h : s.blk.Awaits r k)
    (htmr : s.blk.Unanswered s.cfg.ackTimeout) {ks : List Bool} (hbudget : k + ks.length ≤ s.cfg.maxRetries) :
    ∃ t, execAll (unackedRounds s.cfg ks) s = .next t ∧ Emits r ks.length [] s t ∧ t.blk.Awaits r (k + ks.length) ∧
      t.blk.Unanswered t.cfg.ackTimeout := by
  induction ks generalizing s k with
  | nil => exact ⟨s, rfl, .of_silent r rfl rfl rfl rfl, h, htmr⟩
  | cons b ks ih =>
    rw [List.length_cons] at hbudget ⊢
    obtain ⟨u, hround, hemits, hawaits, htmr'⟩ := execAll_unackedRound h htmr b (by omega)
    obtain ⟨t, hrounds, hemits', hawaits', htmr''⟩ := ih hawaits htmr' (by rw [hemits.cfg]; omega)
    rw [hemits.cfg] at hrounds
    refine ⟨t, (execAll_append hround _).trans hrounds, ?_, ?_, htmr''⟩
    · exact Nat.add_comm 1 ks.length ▸ hemits.trans hemits'
    · rwa [Nat.add_right_comm, Nat.add_assoc] at hawaits'

/-- The RUN that sends the request, then rounds within the budget. -/
theorem execAll_run_unackedRounds {s : State} {r : Request} {rest : List Request} (hpoll : s.blk.txState = .poll)
    (hq : s.blk.q = r :: rest) (hexpected : r.ackExpected = true) {ks : List Bool} (hbudget : ks.length ≤ s.cfg.maxRetries) :
    ∃ t, execAll (.run :: unackedRounds s.cfg ks) s = .next t ∧
      Emits r (ks.length + 1) [] { s with blk := { s.blk with q := rest } } t ∧ t.blk.Awaits r ks.length ∧
      t.blk.Unanswered t.cfg.ackTimeout := by
  obtain ⟨u, hexec, hemits, hawaits, htmr⟩ := exec_run_sends hpoll hq hexpected
  have hcfg : u.cfg = s.cfg := hemits.cfg
  rw [← hcfg] at htmr hbudget
  obtain ⟨t, hrounds, hemits', hawaits', htmr'⟩ := execAll_unackedRounds hawaits htmr (by rwa [Nat.zero_add])
  rw [Nat.zero_add] at hawaits'
  rw [hcfg] at hrounds
  exact ⟨t, (execAll_cons hexec _).trans hrounds, Nat.add_comm 1 ks.length ▸ hemits.trans hemits', hawaits', htmr'⟩

/-- One round more than the budget ends in the abandonment of the request, and sends nothing. -/
theorem execAll_unackedRound_abandons {r : Request} {s : State} (h : s.blk.Awaits r s.cfg.maxRetries)
    (htmr : s.blk.Unanswered s.cfg.ackTimeout) (b : Bool) : ∃ t, execAll (unackedRound s.cfg b) s = .next t ∧
      Emits r 0 [r.failed s.cfg] s t ∧ t.blk.Resolved ∧ t.blk.err.getLsbD 3 = true := by
  obtain ⟨u, hevents, hawaits, hfail, hemits⟩ := execAll_unackedEvents h htmr b
  obtain ⟨t, hexec, hemits', hend⟩ := exec_run_abandons hawaits hfail (by rw [hemits.cfg])
  rw [unackedRound_eq]
  rw [hemits.cfg] at hemits'
  exact ⟨t, (execAll_append hevents _).trans (execAll_cons hexec []), hemits.trans hemits', hend⟩

/-- The RUN that sends the request, then one round more than the budget. -/
theorem execAll_run_unackedRounds_abandons {s : State} {r : Request} {rest : List Request}
    (hpoll : s.blk.txState = .poll) (hq : s.blk.q = r :: rest) (hexpected : r.ackExpected = true) {ks : List Bool}
    (hspent : ks.length = s.cfg.maxRetries + 1) : ∃ t, execAll (.run :: unackedRounds s.cfg ks) s = .next t ∧
      Emits r (s.cfg.maxRetries + 1) [r.failed s.cfg] { s with blk := { s.blk with q := rest } } t ∧
      t.blk.Resolved ∧ t.blk.err.getLsbD 3 = true := by
  obtain rfl | ⟨ks, b, rfl⟩ := List.eq_nil_or_concat' ks
  · exact absurd hspent nofun
  · rw [List.length_append, List.length_singleton, Nat.add_right_cancel_iff] at hspent
    obtain ⟨u, hrun, hemits, hawaits, htmr⟩ := execAll_run_unackedRounds hpoll hq hexpected hspent.le
    have hcfg : u.cfg = s.cfg := hemits.cfg
    rw [hspent] at hemits
    rw [hspent, ← hcfg] at hawaits
    obtain ⟨t, hround, hemits', hend⟩ := execAll_unackedRound_abandons hawaits htmr b
    rw [hcfg] at hround hemits'
    refine ⟨t, ?_, hemits.trans hemits', hend⟩
    rw [unackedRounds, List.flatMap_append, List.flatMap_singleton]
    exact (execAll_append hrun _).trans hround

/-- A posted acknowledgement and a RUN deliver the request, and send nothing. -/
theorem execAll_ack_delivers {r : Request} {k : Nat} {s : State} (h : s.blk.Awaits r k) :
    ∃ t, execAll [.setExtEventAck, .run] s = .next t ∧
      Emits r 0 [r.delivered (k + 1)] s t ∧ t.blk.Resolved := by
  have hawaits := setExtEventOp_awaits h .ack
  have hsees : (s.onBlock (setExtEventOp .ack)).seesAck = true := (State.seesAck_iff _).mpr ⟨hawaits.transmit, rfl⟩
  have hemits : Emits r 0 [] s (s.onBlock (setExtEventOp .ack)) := .of_silent r rfl (Block.postExt_q .ack s.blk) rfl rfl
  obtain ⟨t, hexec, hemits', hend⟩ := exec_run_delivers_current hawaits hsees
  exact ⟨t, (execAll_cons (exec_setExtEventAck s) _).trans (execAll_cons hexec []), hemits.trans hemits', hend⟩

/-- Settles O49: the counts over any commands and over rounds; then the RUN that ends the request. -/
theorem attemptsAreCounted : Obligations.AttemptsAreCounted := by
  refine ⟨fun s r rest cs n hpoll hq hexpected hreset hinit hack hn hbudget => ?_,
    fun s r rest ks hpoll hq hexpected => ⟨fun hbudget => ?_, fun hspent => ?_, fun hbudget => ?_⟩⟩
  · subst hn
    obtain ⟨u, hrun, hcfg, hawaits, hcopies, hreports⟩ :=
      execAll_run_awaits hpoll hq hexpected hreset hinit hack hbudget
    refine ⟨u, hrun, hcopies, hreports, hawaits.transmit, hawaits.cur, hawaits.count, fun hsees => ?_,
      fun hsees hspent => ?_⟩
    · obtain ⟨t, hexec, hemits, hend⟩ := exec_run_delivers_current hawaits hsees
      exact ⟨t, hexec, hemits.txd.trans (List.append_nil _), hemits.report, hend.poll, hend.cur, hend.count⟩
    · rw [← hcfg] at hspent
      obtain ⟨t, hexec, hemits, hend, herr⟩ := exec_run_abandons hawaits hsees hspent
      exact ⟨t, hexec, hemits.txd.trans (List.append_nil _), by rw [hspent]; exact hemits.report, hend.poll, hend.cur,
        hend.count, herr⟩
  · obtain ⟨t, hrun, hemits, hawaits, -⟩ := execAll_run_unackedRounds hpoll hq hexpected hbudget
    exact ⟨t, hrun, hemits.txd, hemits.report.trans (List.append_nil _), hawaits.transmit, hawaits.cur, hawaits.count,
      hemits.queue⟩
  · obtain ⟨t, hrun, hemits, hend, herr⟩ := execAll_run_unackedRounds_abandons hpoll hq hexpected hspent
    exact ⟨t, hrun, hemits.txd, hemits.report, hend.poll, hend.cur, hend.count, herr, hemits.queue⟩
  · obtain ⟨u, hrun, hemits, hawaits, -⟩ := execAll_run_unackedRounds hpoll hq hexpected hbudget
    obtain ⟨t, hack, hemits', hend⟩ := execAll_ack_delivers hawaits
    have hemits'' := hemits.trans hemits'
    exact ⟨t, (execAll_append hrun _).trans hack, hemits''.txd, hemits''.report, hend.poll, hend.cur, hend.count,
      hemits''.queue⟩

end Sys2Proof.Machine
end

section
/-! Proof of the obligation of 45_tx_fsm.md about the spacing of retransmissions (R156): one iteration of the superloop counts
down the timer of the current request, or ends its timeout; the copies after any number of iterations by induction. -/

namespace Sys2Proof.Machine

/-! One iteration -/

/-- A TICK of a running timer is the first of its remaining ones (R101). -/
theorem Block.Unanswered.tickOp_eq {S : Block} {d : Nat} (h : S.Unanswered d) (hd : d ≤ 2 ^ 31 - 1) :
    tickOp S = S.afterTicks d 1 := by
  have hfirst := tickOp_afterTicks hd h.deadline 0
  rwa [Block.afterTicks_zero d h.armed h.low] at hfirst

section
variable {r : Request} {k : Nat} {s : State}

/-- An iteration before the last tick of the timeout only counts it down. -/
theorem execAll_iteration_waits (h : s.blk.Awaits r k) {d : Nat} (htmr : s.blk.Unanswered (d + 1)) (hpos : 1 ≤ d)
    (hd : d + 1 ≤ s.cfg.ackTimeout) : ∃ t, execAll [.tick, .run] s = .next t ∧ Emits r 0 [] s t ∧ t.blk.Awaits r k ∧
      t.blk.Unanswered d ∧ t.blk.now = s.blk.now + 1 := by
  have hmax := s.cfg.ackTimeout_lt
  have htick : exec .tick s = .next (s.onBlock (Block.afterTicks (d + 1) 1)) := by
    rw [exec_tick, State.onBlock, htmr.tickOp_eq (by omega)]
    rfl
  have harmed : decide (1 < max (d + 1) 1) = true := decide_eq_true (by omega)
  have hlow : decide (max (d + 1) 1 ≤ 1) = false := decide_eq_false (by omega)
  have hdeadline : s.blk.tmrDeadline = s.blk.now + BitVec.ofNat 32 1 + BitVec.ofNat 32 d := by
    rw [htmr.deadline, Nat.add_comm, BitVec.ofNat_add, BitVec.add_assoc]
  have hawaits : (s.onBlock (Block.afterTicks (d + 1) 1)).blk.Awaits r k := ⟨h.transmit, h.cur, h.count⟩
  exact ⟨_, (execAll_cons htick _).trans (execAll_cons (exec_run_idle hawaits htmr.mailbox hlow) []),
    .of_silent r rfl rfl rfl rfl, ⟨h.transmit, h.cur, h.count⟩, ⟨htmr.mailbox, harmed, hlow, hdeadline⟩, rfl⟩

/-- The last TICK of the timeout raises the timer: the RUN of its iteration sees a failure (R156). -/
theorem exec_tick_timeout (h : s.blk.Awaits r k) (htmr : s.blk.Unanswered 1) : ∃ u, exec .tick s = .next u ∧
    u.blk.Awaits r k ∧ u.seesFailure = true ∧ Emits r 0 [] s u ∧ u.blk.now = s.blk.now + 1 := by
  have htick : exec .tick s = .next (s.onBlock (Block.afterTicks 1 1)) := by
    rw [exec_tick, State.onBlock, htmr.tickOp_eq (by decide)]
    rfl
  have hnoAck : s.blk.extEvt ≠ .ack := htmr.mailbox ▸ nofun
  exact ⟨_, htick, ⟨h.transmit, h.cur, h.count⟩, (State.seesFailure_iff _).mpr ⟨h.transmit, hnoAck, .inr rfl⟩,
    .of_silent r rfl rfl rfl rfl, rfl⟩

/-- The last iteration of a timeout within the budget sends one more copy. -/
theorem execAll_iteration_resends (h : s.blk.Awaits r k) (htmr : s.blk.Unanswered 1) (hbudget : k + 1 ≤ s.cfg.maxRetries) :
    ∃ t, execAll [.tick, .run] s = .next t ∧ Emits r 1 [] s t ∧ t.blk.Awaits r (k + 1) ∧
      t.blk.Unanswered s.cfg.ackTimeout ∧ t.blk.now = s.blk.now + 1 := by
  obtain ⟨u, htick, hawaits, hfail, hemits, hnow⟩ := exec_tick_timeout h htmr
  rw [← hemits.cfg] at hbudget ⊢
  obtain ⟨t, hrun, hemits', hawaits', htmr', hnow'⟩ := exec_run_resends hawaits hfail hbudget
  exact ⟨t, (execAll_cons htick _).trans (execAll_cons hrun []), hemits.trans hemits', hawaits', htmr', hnow'.trans hnow⟩

/-- The last iteration of the last timeout abandons the request. -/
theorem execAll_iteration_abandons (h : s.blk.Awaits r s.cfg.maxRetries) (htmr : s.blk.Unanswered 1) :
    ∃ t, execAll [.tick, .run] s = .next t ∧ Emits r 0 [r.failed s.cfg] s t ∧ t.blk.Resolved := by
  obtain ⟨u, htick, hawaits, hfail, hemits, -⟩ := exec_tick_timeout h htmr
  obtain ⟨t, hrun, hemits', hend, -⟩ := exec_run_abandons hawaits hfail (by rw [hemits.cfg])
  rw [hemits.cfg] at hemits'
  exact ⟨t, (execAll_cons htick _).trans (execAll_cons hrun []), hemits.trans hemits', hend⟩

end

/-! Any number of iterations -/

theorem iterations_succ (n : Nat) : iterations (n + 1) = iterations n ++ [.tick, .run] := by
  rw [iterations, List.replicate_succ', List.flatten_concat]
  rfl

/-- One more iteration ends a timeout, or it does not. -/
theorem div_mod_succ {n T : Nat} (hT : 1 ≤ T) :
    (n % T + 1 < T ∧ (n + 1) / T = n / T ∧ (n + 1) % T = n % T + 1) ∨
    (n % T + 1 = T ∧ (n + 1) / T = n / T + 1 ∧ (n + 1) % T = 0) := by
  have hsplit := Nat.mod_add_div n T
  have hlt := Nat.mod_lt n hT
  obtain hinside | hend : n % T + 1 < T ∨ n % T + 1 = T := by omega
  · exact .inl ⟨hinside, (Nat.div_mod_unique hT).mpr ⟨by omega, hinside⟩⟩
  · exact .inr ⟨hend, (Nat.div_mod_unique hT).mpr ⟨by rw [Nat.mul_add]; omega, hT⟩⟩

/-- Iterations within the budget, by induction on their number: a copy at the end of each timeout, and the timer as far
into the next. -/
theorem execAll_iterations {r : Request} {s : State} (hT : 1 ≤ s.cfg.ackTimeout) (h : s.blk.Awaits r 0)
    (htmr : s.blk.Unanswered s.cfg.ackTimeout) {n : Nat} (hn : n < s.cfg.ackTimeout * (s.cfg.maxRetries + 1)) :
    ∃ t, execAll (iterations n) s = .next t ∧ Emits r (n / s.cfg.ackTimeout) [] s t ∧
      t.blk.Awaits r (n / s.cfg.ackTimeout) ∧ t.blk.Unanswered (s.cfg.ackTimeout - n % s.cfg.ackTimeout) ∧
      t.blk.now = s.blk.now + BitVec.ofNat 32 n := by
  induction n with
  | zero =>
    rw [Nat.zero_div, Nat.zero_mod]
    exact ⟨s, rfl, .of_silent r rfl rfl rfl rfl, h, htmr, (BitVec.add_zero _).symm⟩
  | succ n ih =>
    obtain ⟨u, hrun, hemits, hawaits, htmr', hnow⟩ := ih (by omega)
    rw [iterations_succ, execAll_append hrun, add_ofNat_succ, ← hnow]
    obtain ⟨hinside, hdiv, hmod⟩ | ⟨hend, hdiv, hmod⟩ := div_mod_succ (n := n) hT <;> rw [hdiv, hmod]
    · have hleft : s.cfg.ackTimeout - n % s.cfg.ackTimeout = s.cfg.ackTimeout - (n % s.cfg.ackTimeout + 1) + 1 := by omega
      rw [hleft] at htmr'
      obtain ⟨t, hiter, hemits', hrest⟩ := execAll_iteration_waits hawaits htmr' (by omega) (by rw [hemits.cfg]; omega)
      exact ⟨t, hiter, hemits.trans hemits', hrest⟩
    · have hlast : s.cfg.ackTimeout - n % s.cfg.ackTimeout = 1 := by omega
      have hbudget : n / s.cfg.ackTimeout + 1 ≤ s.cfg.maxRetries := by
        rw [← hdiv, ← Nat.lt_add_one_iff]
        exact Nat.div_lt_of_lt_mul hn
      rw [hlast] at htmr'
      obtain ⟨t, hiter, hemits', hawaits', htmr'', hnow'⟩ :=
        execAll_iteration_resends hawaits htmr' (by rwa [hemits.cfg])
      rw [hemits.cfg] at htmr''
      exact ⟨t, hiter, hemits.trans hemits', hawaits', htmr'', hnow'⟩

/-- The iteration that ends the last timeout abandons the request. -/
theorem execAll_iterations_abandons {r : Request} {s : State} (hT : 1 ≤ s.cfg.ackTimeout) (h : s.blk.Awaits r 0)
    (htmr : s.blk.Unanswered s.cfg.ackTimeout) :
    ∃ t, execAll (iterations (s.cfg.ackTimeout * (s.cfg.maxRetries + 1))) s = .next t ∧
      Emits r s.cfg.maxRetries [r.failed s.cfg] s t ∧ t.blk.Resolved := by
  have hN : s.cfg.ackTimeout * (s.cfg.maxRetries + 1) =
      s.cfg.ackTimeout - 1 + s.cfg.ackTimeout * s.cfg.maxRetries + 1 := by
    rw [Nat.mul_add]
    omega
  obtain ⟨hdiv, hmod⟩ := (Nat.div_mod_unique (c := s.cfg.ackTimeout - 1) (d := s.cfg.maxRetries) hT).mpr
    ⟨rfl, by omega⟩
  obtain ⟨u, hrun, hemits, hawaits, htmr', -⟩ := execAll_iterations hT h htmr (by rw [hN]; exact Nat.lt_add_one _)
  have hlast : s.cfg.ackTimeout - (s.cfg.ackTimeout - 1) = 1 := by omega
  rw [hdiv] at hemits hawaits
  rw [hmod, hlast] at htmr'
  rw [← hemits.cfg] at hawaits
  obtain ⟨t, hiter, hemits', hend⟩ := execAll_iteration_abandons hawaits htmr'
  rw [hemits.cfg] at hemits'
  rw [hN, iterations_succ, execAll_append hrun]
  exact ⟨t, hiter, hemits.trans hemits', hend⟩

/-- Settles O50: the iterations within the budget, and the one that ends the last timeout. -/
theorem retransmissionsAreSpaced : Obligations.RetransmissionsAreSpaced := by
  intro s r hT htx hcur hmailbox hcount harmed hlow hdeadline
  have hawaits : s.blk.Awaits r 0 := ⟨htx, hcur, congrArg BitVec.toNat hcount⟩
  have htmr : s.blk.Unanswered s.cfg.ackTimeout := ⟨hmailbox, harmed, hlow, hdeadline⟩
  refine ⟨fun n hn => ?_, ?_⟩
  · obtain ⟨t, hrun, hemits, hawaits', -, hnow⟩ := execAll_iterations hT hawaits htmr hn
    exact ⟨t, hrun, hemits.txd, hemits.report.trans (List.append_nil _), hawaits'.transmit, hawaits'.count, hnow⟩
  · obtain ⟨t, hrun, hemits, hend⟩ := execAll_iterations_abandons hT hawaits htmr
    exact ⟨t, hrun, hemits.txd, hemits.report, hend.poll⟩

end Sys2Proof.Machine
end

section
/-! Proofs of the obligations of 46_rx_fsm.md about single bytes: RX_BYTE by the rows of R160 to R163 and R167 (O51), the flag
that closes a frame by what `decode_frame` answers (R164 to R166, O52), and resynchronisation (R169, O53). -/

namespace Sys2Proof.Machine

/-- RX_BYTE commits its effect on the block. -/
theorem exec_rxByte (b : Byte) (s : State) : exec (.rxByte b) s = .next (s.commit (rxByteOp s.cfg b s.blk)) := rfl

/-! What the receive FSM's outputs append -/

/-- An RX_BYTE that appends to REPORT alone. -/
theorem exec_rxByte_of_report {b : Byte} {s : State} {T : Block} {recs : List Report}
    (h : rxByteOp s.cfg b s.blk = (T, { Out.empty with report := recs })) :
    exec (.rxByte b) s = .next { s with blk := T, report := s.report ++ recs } := by
  rw [exec_rxByte, h, State.commit_reportOnly]

/-- An RX_BYTE that appends to DISPATCH alone. -/
theorem exec_rxByte_of_dispatch {b : Byte} {s : State} {T : Block} {ds : List Dispatched}
    (h : rxByteOp s.cfg b s.blk = (T, { Out.empty with dispatch := ds })) :
    exec (.rxByte b) s = .next { s with blk := T, dispatch := s.dispatch ++ ds } := by
  rw [exec_rxByte, h]
  simp only [State.commit, Out.empty, List.append_nil]

/-- What `rx_error` appends is a function of the buffer (R166): under the policy NACK a frame to the peer, and a record. -/
def rxErrorOut (c : Config) (k : FrameError) (buf : List Byte) : Out where
  txd := if c.rxErrPolicy = .nack then wire c c.typeNack [] else []
  report := [{ code := k.reportCode, type := buf.headD 0, count := 0 }]
  dispatch := []

theorem rxError_eq (c : Config) (k : FrameError) (S : Block) :
    rxError c k S = (S.raise k.err, rxErrorOut c k S.rxBuf) := rfl

/-- An RX_BYTE that ends a frame with an error. -/
theorem exec_rxByte_of_rxError {b : Byte} {s : State} {T : Block} {k : FrameError} {buf : List Byte}
    (h : rxByteOp s.cfg b s.blk = (T, rxErrorOut s.cfg k buf)) : exec (.rxByte b) s = .next { s with
      blk := T
      report := s.report ++ [{ code := k.reportCode, type := buf.headD 0, count := 0 }]
      txd := s.txd ++ if s.cfg.rxErrPolicy = .nack then wire s.cfg s.cfg.typeNack [] else [] } := by
  rw [exec_rxByte, h]
  simp only [State.commit, rxErrorOut, List.append_nil]

/-- The mailbox write (R150), by whether the mailbox was empty. -/
theorem Block.postExt_eq (ev : ExtEvent) (S : Block) : (S.postExt ev).2 =
    { S with extEvt := ev, err := if S.extEvt = .none then S.err else S.err ||| 0x40 } := by
  by_cases hempty : S.extEvt = .none
  · have hfull : S.mailboxFull = false := by simp [Block.mailboxFull, hempty]
    simp only [Block.postExt, hfull, if_pos hempty]
    rfl
  · have hfull : S.mailboxFull = true := S.mailboxFull_iff.mpr hempty
    simp only [Block.postExt, hfull, if_neg hempty]
    rfl

/-! One byte that closes no frame -/

/-- In HUNT every byte but a flag is discarded (R160). -/
theorem rxByteOp_discard (c : Config) {b : Byte} {S : Block} (hhunt : S.rxState = .hunt) (hflag : b ≠ FLAG) :
    rxByteOp c b S = ({ S with result := 0 }, Out.empty) := by
  simp only [rxByteOp, hhunt, rxHunt, if_neg hflag, consumed, Block.setResult]

/-- An escaped flag abandons the frame (R162, R167). -/
theorem rxByteOp_abort (c : Config) {S : Block} (hesc : S.rxState = .esc) : rxByteOp c FLAG S =
    ({ S with rxBuf := [], rxState := .data, err := S.err ||| 0x80, result := 6 },
      { Out.empty with report := [{ code := 0x13, type := S.firstByte, count := 0 }] }) := by
  rw [rxByteOp, hesc]
  rfl

/-- The byte `b` carries the data byte `x`: itself in DATA, XORed with 0x20 after an escape (R161, R162). -/
def CarriesByte (st : RxState) (b x : Byte) : Prop :=
  st = .data ∧ b ≠ FLAG ∧ b ≠ ESC ∧ x = b ∨ st = .esc ∧ b ≠ FLAG ∧ x = b ^^^ XORV

/-- A byte that carries data is appended in DATA (R163). -/
theorem rxByteOp_of_carries {b x : Byte} {S : Block} (hx : CarriesByte S.rxState b x) (c : Config) : rxByteOp c b S =
    ((rxAppend c x { S with rxState := .data }).blk.setResult (rxAppend c x { S with rxState := .data }).code,
      (rxAppend c x { S with rxState := .data }).out) := by
  obtain ⟨hdata, hflag, hesc, rfl⟩ | ⟨hesc, hflag, rfl⟩ := hx
  · have hS : { S with rxState := .data } = S := by rw [← hdata]
    rw [hS, rxByteOp, hdata]
    simp only [rxData, if_neg hflag, if_neg hesc]
  · rw [rxByteOp, hesc]
    simp only [rxEsc, if_neg hflag]

/-- In a buffer that is not full a data byte is kept (R163), also in a buffer past its capacity, which I6 of R48 rules out of
every run and `rxByteOp_append` leaves out. -/
theorem rxByteOp_keep {c : Config} {b x : Byte} {S : Block} (hx : CarriesByte S.rxState b x)
    (hroom : S.rxBuf.length ≠ c.maxPayload + 7) :
    rxByteOp c b S = ({ S with rxBuf := S.rxBuf ++ [x], rxState := .data, result := 0 }, Out.empty) := by
  have happend : rxAppend c x { S with rxState := .data } =
      consumed { S with rxState := .data, rxBuf := S.rxBuf ++ [x] } :=
    if_neg fun hfull => hroom (of_decide_eq_true hfull)
  rw [rxByteOp_of_carries hx, happend]
  rfl

/-- A data byte for which the buffer has no room ends the frame with LengthMismatch (R163). -/
theorem rxByteOp_overflow {c : Config} {b x : Byte} {S : Block} (hx : CarriesByte S.rxState b x)
    (hfull : S.rxBuf.length = c.maxPayload + 7) : rxByteOp c b S =
      ({ S with rxBuf := [], rxState := .hunt, err := S.err ||| 0x02, result := 5 }, rxErrorOut c .length S.rxBuf) := by
  have happend : rxAppend c x { S with rxState := .data } =
      { blk := { S with rxBuf := [], rxState := .hunt, err := S.err ||| 0x02 }
        out := rxErrorOut c .length S.rxBuf
        code := 5 } :=
    if_pos (decide_eq_true hfull)
  rw [rxByteOp_of_carries hx, happend]
  rfl

/-- Settles O51: one rule for each clause. -/
theorem rxByteCollects : Obligations.RxByteCollects := by
  refine ⟨fun _ => rfl, fun s b => ⟨fun hhunt hflag => ?_, fun hhunt hflag => ?_, fun hdata hflag hempty => ?_,
    fun hdata hesc => ?_, fun hdata hflag hesc hroom => ?_, fun hesc hflag hroom => ?_, fun hb hfull => ?_,
    fun hesc hflag => ?_⟩⟩
  · exact exec_rxByte_of_silent (rxByteOp_discard s.cfg hhunt hflag)
  · obtain rfl := hflag
    exact exec_rxByte_of_silent (rxByteOp_openingFlag s.cfg (.inl hhunt))
  · obtain rfl := hflag
    have hopen := exec_rxByte_of_silent (rxByteOp_openingFlag s.cfg (.inr ⟨hdata, hempty⟩))
    rwa [← hdata, ← hempty] at hopen
  · obtain rfl := hesc
    exact exec_rxByte_of_silent (rxByteOp_escape s.cfg hdata)
  · have hkeep := exec_rxByte_of_silent (rxByteOp_keep (.inl ⟨hdata, hflag, hesc, rfl⟩) hroom)
    rwa [← hdata] at hkeep
  · exact exec_rxByte_of_silent (rxByteOp_keep (.inr ⟨hesc, hflag, rfl⟩) hroom)
  · obtain ⟨x, hx⟩ : ∃ x, CarriesByte s.blk.rxState b x := by
      obtain ⟨hdata, hflag, hesc⟩ | ⟨hesc, hflag⟩ := hb
      · exact ⟨b, .inl ⟨hdata, hflag, hesc, rfl⟩⟩
      · exact ⟨b ^^^ XORV, .inr ⟨hesc, hflag, rfl⟩⟩
    exact exec_rxByte_of_rxError (rxByteOp_overflow hx hfull)
  · obtain rfl := hflag
    exact exec_rxByte_of_report (rxByteOp_abort s.cfg hesc)

/-! The flag that closes a frame -/

section
variable {c : Config} {S : Block} (hdata : S.rxState = .data) (hframe : S.rxBuf ≠ [])
include hdata hframe

/-- A flag behind a non-empty buffer ends the frame and empties the buffer (R161, R164). -/
theorem rxByteOp_closingFlag : rxByteOp c FLAG S =
    ({ (endOfFrame c S.rxBuf S).blk with rxBuf := [], result := (endOfFrame c S.rxBuf S).code },
      (endOfFrame c S.rxBuf S).out) := by
  rw [rxByteOp, hdata]
  simp only [rxData, if_true, if_neg hframe, Block.setResult]

/-- A frame whose length is wrong (R164, R166). -/
theorem rxByteOp_lengthMismatch (h : decodeFrame c S.rxBuf = .lengthMismatch) : rxByteOp c FLAG S =
    ({ S with rxBuf := [], err := S.err ||| 0x02, result := 5 }, rxErrorOut c .length S.rxBuf) := by
  simp only [rxByteOp_closingFlag hdata hframe, endOfFrame, h, rxError_eq]
  rfl

/-- A frame whose checksum is wrong (R164, R166). -/
theorem rxByteOp_checksumMismatch (h : decodeFrame c S.rxBuf = .checksumMismatch) : rxByteOp c FLAG S =
    ({ S with rxBuf := [], err := S.err ||| 0x01, result := 4 }, rxErrorOut c .checksum S.rxBuf) := by
  simp only [rxByteOp_closingFlag hdata hframe, endOfFrame, h, rxError_eq]
  rfl

/-- An acknowledgement frame goes to the mailbox (R165). -/
theorem rxByteOp_ackFrame {p : List Byte} (h : decodeFrame c S.rxBuf = .ok c.typeAck p) : rxByteOp c FLAG S =
    ({ S with
        rxBuf := [], extEvt := .ack, result := 2
        err := if S.extEvt = .none then S.err else S.err ||| 0x40 }, Out.empty) := by
  rw [rxByteOp_closingFlag hdata hframe, endOfFrame, h]
  simp only [rxAccept, if_true, Block.postExt_eq]

/-- A NACK frame goes to the mailbox (R165). -/
theorem rxByteOp_nackFrame {p : List Byte} (h : decodeFrame c S.rxBuf = .ok c.typeNack p) : rxByteOp c FLAG S =
    ({ S with
        rxBuf := [], extEvt := .nack, result := 3
        err := if S.extEvt = .none then S.err else S.err ||| 0x40 }, Out.empty) := by
  rw [rxByteOp_closingFlag hdata hframe, endOfFrame, h]
  simp only [rxAccept, if_neg c.typeAck_ne_typeNack.symm, if_true, Block.postExt_eq]

/-- Any other frame is dispatched (R165). -/
theorem rxByteOp_dispatchedFrame {t : Byte} {p : List Byte} (h : decodeFrame c S.rxBuf = .ok t p) (hack : t ≠ c.typeAck)
    (hnack : t ≠ c.typeNack) : rxByteOp c FLAG S =
      ({ S with rxBuf := [], result := 1 }, { Out.empty with dispatch := [{ type := t, payload := p }] }) := by
  rw [rxByteOp_closingFlag hdata hframe, endOfFrame, h]
  simp only [rxAccept, if_neg hack, if_neg hnack]

end

/-- Settles O52: one rule for each answer of `decode_frame`. -/
theorem rxByteClosesFrame : Obligations.RxByteClosesFrame := by
  intro s hdata hframe
  refine ⟨fun hlength => ?_, fun hchecksum => ?_, fun p hack => ?_, fun p hnack => ?_, fun t p hok hack hnack => ?_⟩
  · exact exec_rxByte_of_rxError (rxByteOp_lengthMismatch hdata hframe hlength)
  · exact exec_rxByte_of_rxError (rxByteOp_checksumMismatch hdata hframe hchecksum)
  · exact exec_rxByte_of_silent (rxByteOp_ackFrame hdata hframe hack)
  · exact exec_rxByte_of_silent (rxByteOp_nackFrame hdata hframe hnack)
  · exact exec_rxByte_of_dispatch (rxByteOp_dispatchedFrame hdata hframe hok hack hnack)

/-! Resynchronisation -/

/-- The close of a frame leaves the receive state as it is (R164). -/
theorem endOfFrame_rxState (c : Config) (f : List Byte) (S : Block) : (endOfFrame c f S).blk.rxState = S.rxState := by
  rcases endOfFrame_cases c f S with ⟨-, he⟩ | ⟨-, he⟩ | ⟨p, -, he⟩ | ⟨p, -, he⟩ | ⟨t, p, -, -, -, he⟩ <;> rw [he]
  case inr.inr.inl => exact Block.postExt_rxState .ack S
  case inr.inr.inr.inl => exact Block.postExt_rxState .nack S
  all_goals rfl

/-- A flag brings the receive FSM to DATA with an empty buffer from every state: it opens a frame, repeats, closes a frame, or
abandons one (R160 to R162). -/
theorem rxByteOp_flag (c : Config) (S : Block) :
    (rxByteOp c FLAG S).1.rxState = .data ∧ (rxByteOp c FLAG S).1.rxBuf = [] := by
  cases hst : S.rxState with
  | hunt =>
    rw [rxByteOp_openingFlag c (.inl hst)]
    exact ⟨rfl, rfl⟩
  | data =>
    by_cases hempty : S.rxBuf = []
    · rw [rxByteOp_openingFlag c (.inr ⟨hst, hempty⟩)]
      exact ⟨rfl, rfl⟩
    · rw [rxByteOp_closingFlag hst hempty]
      exact ⟨(endOfFrame_rxState c S.rxBuf S).trans hst, rfl⟩
  | esc =>
    rw [rxByteOp_abort c hst]
    exact ⟨rfl, rfl⟩

/-- Settles O53: a flag does it from every state, ESC too, and so does the second flag. -/
theorem twoFlagsResynchronise : Obligations.TwoFlagsResynchronise := by
  intro s
  refine ⟨⟨_, (execAll_cons (exec_rxByte FLAG s) _).trans (execAll_cons (exec_rxByte FLAG _) []), ?_⟩,
    fun _ => ⟨_, exec_rxByte FLAG s, rxByteOp_flag s.cfg s.blk⟩⟩
  exact rxByteOp_flag _ _

end Sys2Proof.Machine
end

section
/-! Proofs of the obligations of 46_rx_fsm.md about whole frames and about the transmit side: a wire frame is received and
routed by its type (R161, R165, O44), and what RX_BYTE does is a function of the receive state (R171, O54). -/

namespace Sys2Proof.Machine

/-! A whole frame -/

/-- Settles O44: the opening flag and the stuffed bytes leave the frame in the buffer, and the closing flag decodes it. -/
theorem wireFramesAreReceived : Obligations.WireFramesAreReceived := by
  intro s t p hp hidle
  have hlen := frame_length s.cfg t p
  obtain ⟨-, hfill⟩ := unstuffingInvertsStuffing s (frame s.cfg t p) (by omega) hidle
  have hclose : execAll (rxBytes (wire s.cfg t p)) s = exec (.rxByte FLAG) (s.receiving (frame s.cfg t p)) := by
    rw [wire, rxBytes, List.map_append]
    exact (execAll_append hfill _).trans (execAll_cons (exec_rxByte FLAG _) [])
  have hframe : frame s.cfg t p ≠ [] := List.ne_nil_of_length_pos (by omega)
  have hdecode := decodeOfFrame s.cfg t p hp
  obtain ⟨-, -, hack, hnack, hother⟩ := rxByteClosesFrame (s.receiving (frame s.cfg t p)) rfl hframe
  rw [hclose]
  split
  case isTrue htype =>
    subst htype
    exact hack p hdecode
  case isFalse hnotAck =>
    split
    case isTrue htype =>
      subst htype
      exact hnack p hdecode
    case isFalse hnotNack => exact hother t p hdecode hnotAck hnotNack

/-! The receive side alone -/

/-- An effect of RX_BYTE, said without the block: the new receive state and buffer, the response, the event posted, the ERR
bits raised but for the mailbox overrun, and the output. -/
structure RxEffect where
  rxState : RxState
  rxBuf : List Byte
  result : Word
  posted : ExtEvent := .none
  raised : Byte := 0
  out : Out := Out.empty

/-- The effect on a block: an event posted overruns a mailbox that is not empty (R150). -/
def RxEffect.apply (e : RxEffect) (S : Block) : Block :=
  { S with
    rxState := e.rxState
    rxBuf := e.rxBuf
    result := e.result
    extEvt := if e.posted = .none then S.extEvt else e.posted
    err := S.err ||| e.raised ||| if e.posted = .none ∨ S.extEvt = .none then 0 else 0x40 }

/-- What RX_BYTE of `b` does in the receive state `st` with the buffer `buf` is one effect, whatever the rest of the block. -/
def RxDetermined (c : Config) (b : Byte) (st : RxState) (buf : List Byte) : Prop :=
  ∃ e : RxEffect, ∀ S : Block, S.rxState = st → S.rxBuf = buf → rxByteOp c b S = (e.apply S, e.out)

section
variable {c : Config} {b : Byte} {st : RxState} {buf : List Byte}

/-- A rule that raises ERR bits and posts no event. -/
theorem RxDetermined.of_raise (x : RxState) (bs : List Byte) (r : Word) (m : Byte) (out : Out)
    (h : ∀ S : Block, S.rxState = st → S.rxBuf = buf → rxByteOp c b S =
      ({ S with rxState := x, rxBuf := bs, result := r, err := S.err ||| m }, out)) : RxDetermined c b st buf := by
  refine ⟨{ rxState := x, rxBuf := bs, result := r, raised := m, out := out }, fun S hst hbuf => ?_⟩
  simp [h S hst hbuf, RxEffect.apply]

/-- A rule that changes the receive side alone. -/
theorem RxDetermined.of_silent (x : RxState) (bs : List Byte) (r : Word) (out : Out)
    (h : ∀ S : Block, S.rxState = st → S.rxBuf = buf → rxByteOp c b S =
      ({ S with rxState := x, rxBuf := bs, result := r }, out)) : RxDetermined c b st buf :=
  .of_raise x bs r 0 out fun S hst hbuf => (h S hst hbuf).trans (by simp)

/-- A rule that posts an event, with the overrun as the mailbox write raises it. -/
theorem RxDetermined.of_post (x : RxState) (bs : List Byte) (r : Word) {ev : ExtEvent} (hev : ev ≠ .none)
    (h : ∀ S : Block, S.rxState = st → S.rxBuf = buf → rxByteOp c b S =
      ({ S with
          rxState := x, rxBuf := bs, extEvt := ev, result := r
          err := if S.extEvt = .none then S.err else S.err ||| 0x40 }, Out.empty)) : RxDetermined c b st buf := by
  refine ⟨{ rxState := x, rxBuf := bs, result := r, posted := ev }, fun S hst hbuf => ?_⟩
  by_cases hempty : S.extEvt = .none <;> simp [h S hst hbuf, RxEffect.apply, hev, hempty]

/-- A data byte is kept or overflows by the length of the buffer (R163). -/
theorem rxDetermined_of_carries {x : Byte} (hx : CarriesByte st b x) : RxDetermined c b st buf := by
  by_cases hfull : buf.length = c.maxPayload + 7
  · refine .of_raise .hunt [] 5 0x02 (rxErrorOut c .length buf) fun S hst hbuf => ?_
    subst hst hbuf
    exact rxByteOp_overflow hx hfull
  · refine .of_silent .data (buf ++ [x]) 0 Out.empty fun S hst hbuf => ?_
    subst hst hbuf
    exact rxByteOp_keep hx hfull

/-- The flag that closes a frame does what `decode_frame` answers of the buffer (R164). -/
theorem rxDetermined_closingFlag (hframe : buf ≠ []) : RxDetermined c FLAG .data buf := by
  cases hdecode : decodeFrame c buf with
  | lengthMismatch =>
    refine .of_raise .data [] 5 0x02 (rxErrorOut c .length buf) fun S hst hbuf => ?_
    subst hbuf
    rw [rxByteOp_lengthMismatch hst hframe hdecode, ← hst]
  | checksumMismatch =>
    refine .of_raise .data [] 4 0x01 (rxErrorOut c .checksum buf) fun S hst hbuf => ?_
    subst hbuf
    rw [rxByteOp_checksumMismatch hst hframe hdecode, ← hst]
  | ok t p =>
    by_cases hack : t = c.typeAck
    · refine .of_post .data [] 2 (ev := .ack) nofun fun S hst hbuf => ?_
      subst hbuf hack
      rw [rxByteOp_ackFrame hst hframe hdecode, ← hst]
    by_cases hnack : t = c.typeNack
    · refine .of_post .data [] 3 (ev := .nack) nofun fun S hst hbuf => ?_
      subst hbuf hnack
      rw [rxByteOp_nackFrame hst hframe hdecode, ← hst]
    · refine .of_silent .data [] 1 { Out.empty with dispatch := [{ type := t, payload := p }] } fun S hst hbuf => ?_
      subst hbuf
      rw [rxByteOp_dispatchedFrame hst hframe hdecode hack hnack, ← hst]

end

/-- RX_BYTE is determined by the receive state, the buffer and the byte (R171), rule by rule. -/
theorem rxDetermined (c : Config) (b : Byte) (st : RxState) (buf : List Byte) : RxDetermined c b st buf := by
  by_cases hflag : b = FLAG
  · subst hflag
    cases st with
    | hunt => exact .of_silent .data [] 0 Out.empty fun S hst _ => rxByteOp_openingFlag c (.inl hst)
    | data =>
      by_cases hempty : buf = []
      · exact .of_silent .data [] 0 Out.empty fun S hst hbuf =>
          rxByteOp_openingFlag c (.inr ⟨hst, hbuf.trans hempty⟩)
      · exact rxDetermined_closingFlag hempty
    | esc =>
      refine .of_raise .data [] 6 0x80 { Out.empty with report := [{ code := 0x13, type := buf.headD 0, count := 0 }] }
        fun S hst hbuf => ?_
      subst hbuf
      exact rxByteOp_abort c hst
  · cases st with
    | hunt =>
      refine .of_silent .hunt buf 0 Out.empty fun S hst hbuf => ?_
      rw [rxByteOp_discard c hst hflag, ← hst, ← hbuf]
    | data =>
      by_cases hesc : b = ESC
      · subst hesc
        refine .of_silent .esc buf 0 Out.empty fun S hst hbuf => ?_
        rw [rxByteOp_escape c hst, ← hbuf]
      · exact rxDetermined_of_carries (.inl ⟨rfl, hflag, hesc, rfl⟩)
    | esc => exact rxDetermined_of_carries (.inr ⟨rfl, hflag, rfl⟩)

/-- But for the overrun's bit, the ERR bits an effect raises are its own. -/
theorem RxEffect.apply_err_masked (e : RxEffect) (S : Block) :
    (e.apply S).err &&& 0xBF = (S.err ||| e.raised) &&& 0xBF := by
  have hoverrun : (if e.posted = .none ∨ S.extEvt = .none then 0 else 0x40 : Byte) &&& 0xBF = 0 := by split <;> rfl
  simp only [RxEffect.apply]
  rw [BitVec.and_or_distrib_right, hoverrun]
  exact BitVec.or_zero

/-- Settles O54: one effect on two blocks. -/
theorem receiveIgnoresTransmit : Obligations.ReceiveIgnoresTransmit := by
  intro s s' b hcfg hst hbuf
  obtain ⟨e, he⟩ := rxDetermined s.cfg b s.blk.rxState s.blk.rxBuf
  have hs : exec (.rxByte b) s = .next (s.commit (e.apply s.blk, e.out)) := by
    rw [exec_rxByte, he s.blk rfl rfl]
  have hs' : exec (.rxByte b) s' = .next (s'.commit (e.apply s'.blk, e.out)) := by
    rw [exec_rxByte, ← hcfg, he s'.blk hst.symm hbuf.symm]
  refine ⟨_, _, e.out.txd, e.out.report, e.out.dispatch, hs, hs', rfl, rfl, rfl, rfl, rfl, rfl, rfl, rfl, rfl,
    ⟨e.raised, e.apply_err_masked s.blk, e.apply_err_masked s'.blk⟩, ?_, rfl⟩
  by_cases hposted : e.posted = .none
  · exact .inl ⟨if_pos hposted, if_pos hposted⟩
  · have hevent (S : Block) : (e.apply S).extEvt = e.posted := if_neg hposted
    exact .inr ⟨(hevent s.blk).trans (hevent s'.blk).symm, (hevent s.blk).trans_ne hposted⟩

end Sys2Proof.Machine
end

section
/-! Proofs of the obligations of 30_encoding.md about the two round trips (R74, R80): a command's word matches the command's
row and its operands stand in their fields, and a word that matches a row is the row's pattern with the operands it carries. -/

namespace Sys2Proof

open Sys2Proof.Machine

/-! Operands and their places (R72) -/

theorem byteOperand_or (x y : Word) : byteOperand (x ||| y) = byteOperand x ||| byteOperand y :=
  BitVec.extractLsb'_or

theorem ackOperand_or (x y : Word) : ackOperand (x ||| y) = (ackOperand x || ackOperand y) := BitVec.getLsbD_or

theorem byteOperand_placeByte (b : Byte) : byteOperand (placeByte b) = b := by
  revert b
  decide

theorem ackOperand_placeByte (b : Byte) : ackOperand (placeByte b) = false := by
  revert b
  decide

/-- A byte set in a word whose A is clear is the word's byte operand. -/
theorem byteOperand_or_placeByte {x : Word} (h : byteOperand x = 0) (b : Byte) : byteOperand (x ||| placeByte b) = b := by
  rw [byteOperand_or, h, byteOperand_placeByte]
  exact BitVec.zero_or

/-- A flag set in a word whose bit 0 is clear is the word's flag operand. -/
theorem ackOperand_or_placeAck {x : Word} (h : ackOperand x = false) (a : Bool) :
    ackOperand (x ||| placeAck a) = a := by
  have hplaced : ackOperand (placeAck a) = a := by cases a <;> rfl
  rw [ackOperand_or, h, hplaced, Bool.false_or]

/-- A mask set in a word whose bits [7:0] are clear is the word's mask operand. -/
theorem maskOperand_or_zext32 {x : Word} (h : maskOperand x = 0) (m : Byte) : maskOperand (x ||| zext32 m) = m := by
  have hplaced : maskOperand (zext32 m) = m := by
    revert m
    decide
  calc maskOperand (x ||| zext32 m) = maskOperand x ||| maskOperand (zext32 m) := BitVec.extractLsb'_or
    _ = 0 ||| m := by rw [h, hplaced]
    _ = m := BitVec.zero_or

/-- The byte of a word, in its place, is the word's bits [23:16]. -/
theorem placeByte_byteOperand (w : Word) : placeByte (byteOperand w) = w &&& 0x00FF0000 := by
  obtain ⟨hop, hB⟩ := placeByte_fields (byteOperand w)
  rw [eq_iff_fields, hop, hB, byteOperand_placeByte, opField_and, byteOperand_and, bField_and]
  exact ⟨BitVec.and_zero.symm, BitVec.and_allOnes.symm, BitVec.and_zero.symm⟩

/-- The flag of a word, in its place, is the word's bit 0. -/
theorem placeAck_ackOperand (w : Word) : placeAck (ackOperand w) = w &&& 0x00000001 :=
  BitVec.and_one_eq_setWidth_ofBool_getLsbD.symm

/-- The mask of a word, in its place, is the word's bits [7:0]. -/
theorem zext32_maskOperand (w : Word) : zext32 (maskOperand w) = w &&& 0x000000FF := by
  have hmod : w.toNat &&& 0xFF = w.toNat % 2 ^ 8 := Nat.and_two_pow_sub_one_eq_mod w.toNat 8
  apply BitVec.eq_of_toNat_eq
  simp only [zext32, maskOperand, BitVec.toNat_setWidth, BitVec.extractLsb'_toNat, BitVec.toNat_and, Nat.shiftRight_zero]
  exact (Nat.mod_eq_of_lt (by omega)).trans hmod.symm

/-! From a command to its word and back -/

/-- The word of a command matches the command's row (R80). -/
theorem encode_match (i : Instr) : encode i &&& i.row.mask = i.row.pat := by
  cases i with
  | stageByte b => exact Laws.EncodedInRow.stageByte b
  | enqueue t a => exact Laws.EncodedInRow.enqueue t a
  | sendDebug a => exact Laws.EncodedInRow.sendDebug a
  | crcByte b => exact Laws.EncodedInRow.crcByte b
  | rxByte b => exact Laws.EncodedInRow.rxByte b
  | clrErr m => exact Laws.EncodedInRow.clrErr m
  | _ => rfl

/-- The operands that the command's row takes from its word are those of the command (R72). -/
theorem Instr.build_encode (i : Instr) : i.row.build (encode i) = i := by
  cases i with
  | stageByte b => exact congrArg Instr.stageByte (byteOperand_or_placeByte rfl b)
  | enqueue t a =>
    have htype : byteOperand (encode (.enqueue t a)) = t := by
      rw [encode, byteOperand_or, (placeAck_fields a).2, byteOperand_or_placeByte rfl]
      exact BitVec.or_zero
    have hflag : ackOperand (encode (.enqueue t a)) = a :=
      ackOperand_or_placeAck (by rw [ackOperand_or, ackOperand_placeByte]; rfl) a
    exact congrArg₂ Instr.enqueue htype hflag
  | sendDebug a => exact congrArg Instr.sendDebug (ackOperand_or_placeAck rfl a)
  | crcByte b => exact congrArg Instr.crcByte (byteOperand_or_placeByte rfl b)
  | rxByte b => exact congrArg Instr.rxByte (byteOperand_or_placeByte rfl b)
  | clrErr m => exact congrArg Instr.clrErr (maskOperand_or_zext32 rfl m)
  | _ => rfl

/-- Settles O1: the command's row matches its word, and takes the command's operands from it. -/
theorem decodeOfEncode : Obligations.DecodeOfEncode := fun i => by
  rw [decode_of_match (encode_match i), i.build_encode]

/-! From a word to its command and back -/

/-- A legal word matches the row that its command is built from (R77). -/
theorem exists_match_of_decode {w : Word} {i : Instr} (h : decode w = .ok i) :
    ∃ r : Row, w &&& r.mask = r.pat ∧ r.build w = i := by
  by_contra hno
  obtain ⟨e, he⟩ := (decode_error_iff w).mpr fun r _ hr =>
    hno ⟨r, hr, Except.ok.inj ((decode_of_match hr).symm.trans h)⟩
  cases h.symm.trans he

/-- The word of the command that a row builds is the row's pattern with the bits its mask leaves free (R80). -/
theorem Row.encode_build (r : Row) (w : Word) : encode (r.build w) = r.pat ||| (w &&& ~~~r.mask) := by
  cases r with
  | stageByte => exact congrArg (0x07000000 ||| ·) (placeByte_byteOperand w)
  | enqueue =>
    rw [Row.build, encode, placeByte_byteOperand, placeAck_ackOperand, BitVec.or_assoc, ← BitVec.and_or_distrib_left]
    rfl
  | sendDebug => exact congrArg (0x09000000 ||| ·) (placeAck_ackOperand w)
  | crcByte => exact congrArg (0x0B000000 ||| ·) (placeByte_byteOperand w)
  | rxByte => exact congrArg (0x0D000000 ||| ·) (placeByte_byteOperand w)
  | clrErr => exact congrArg (0x0E000000 ||| ·) (zext32_maskOperand w)
  | _ => exact BitVec.or_zero.symm.trans (congrArg (_ ||| ·) BitVec.and_zero.symm)

/-- Settles O2: a word is the bits its row tests and the bits its row leaves free. -/
theorem encodeOfDecode : Obligations.EncodeOfDecode := by
  intro w i h
  obtain ⟨r, hmatch, rfl⟩ := exists_match_of_decode h
  calc encode (r.build w) = r.pat ||| (w &&& ~~~r.mask) := r.encode_build w
    _ = (w &&& r.mask) ||| (w &&& ~~~r.mask) := by rw [hmatch]
    _ = w := by rw [← BitVec.and_or_distrib_left, BitVec.or_not_self, BitVec.and_allOnes]

end Sys2Proof
end

section
/-! Proof of the obligation of 30_encoding.md about the assembler's lines (R80): a line is refused when an operand is out of
range, and otherwise its words are those of its commands, as numbers. -/

namespace Sys2Proof.Machine

/-! Operands out of range -/

theorem okByte_of_lt {n : Nat} (h : 0xFF < n) : okByte n = false := decide_eq_false (Nat.not_le_of_lt h)

theorem okAck_of_lt {n : Nat} (h : 1 < n) : okAck n = false := decide_eq_false (Nat.not_le_of_lt h)

theorem all_okByte_of_lt {bs : List Nat} (h : ∃ b ∈ bs, 0xFF < b) : bs.all okByte = false := by
  obtain ⟨b, hb, hlt⟩ := h
  exact List.all_eq_false.mpr ⟨b, hb, by simp [okByte_of_lt hlt]⟩

/-- A line with an operand out of range is an assembly error (R80). -/
theorem assemble_of_not_wellFormed (c : Config) {a : Asm} (h : a.wellFormed = false) :
    assemble c a = .error .outOfRange := if_neg (by simp [h])

/-! Single commands -/

/-- The mask of CLR_ERR is added to its clear bits [7:0] (R80). -/
theorem encode_clrErr (m : Byte) : encode (.clrErr m) = BitVec.ofNat 32 (0x0E000000 + m.toNat) := by
  revert m
  decide

/-- A line of one command in range is that command's word. -/
theorem assemble_single (c : Config) {a : Asm} {i : Instr} {w : Word} (hrange : a.wellFormed = true)
    (hexpand : expand c a = [i]) (hword : encode i = w) : assemble c a = .ok [w] := by
  rw [assemble_of_wellFormed c hrange, hexpand, List.map_singleton, hword]

/-- The word of a byte command whose byte stands in A, for a byte in range. -/
theorem encode_byteOf {command : Byte → Instr} {base : Nat}
    (hword : ∀ b, encode (command b) = BitVec.ofNat 32 (base + b.toNat * 2 ^ 16)) {n : Nat} (h : n ≤ 0xFF) :
    encode (command (byteOf n)) = BitVec.ofNat 32 (base + n * 2 ^ 16) := by
  rw [hword, byteOf_toNat h]

/-! RX_FRAME -/

/-- RX_FRAME in range is one RX_BYTE for each byte on the wire, whatever the length of the payload (R81, and
notes/assumptions/17.md beyond the domain of R130). -/
theorem assemble_rxFrame (c : Config) {t : Nat} {bs : List Nat} (ht : t ≤ 0xFF) (hbs : ∀ b ∈ bs, b ≤ 0xFF) :
    assemble c (.rxFrame t bs) = .ok ((wire c (BitVec.ofNat 8 t) (bs.map (BitVec.ofNat 8))).map
      fun b => BitVec.ofNat 32 (0x0D000000 + b.toNat * 2 ^ 16)) := by
  have hrange : (Asm.rxFrame t bs).wellFormed = true := by simp [Asm.wellFormed, all_okByte hbs, okByte, ht]
  rw [assemble_of_wellFormed c hrange, expand, List.map_map]
  exact congrArg _ (List.map_congr_left fun b _ => encode_rxByte b)

/-! The obligation -/

/-- Settles O6: the lines out of range are ill-formed, and each other line is one command or an RX_FRAME. -/
theorem assemblerWords : Obligations.AssemblerWords := by
  intro c
  have refused : ∀ {a : Asm}, a.wellFormed = false → assemble c a = .error .outOfRange := assemble_of_not_wellFormed c
  have hbyte : ∀ {n}, n ≤ 0xFF → okByte n = true := decide_eq_true
  have hflag : ∀ {a}, a ≤ 1 → okAck a = true := decide_eq_true
  refine ⟨fun b hb => ?badByte, fun m hm => refused (okByte_of_lt hm), fun t a ha => ?badFlag, refused rfl,
    fun t a ht => refused ?badType, fun t a bs => ?badPseudo, fun t bs ht hbs _ => assemble_rxFrame c ht hbs,
    rfl, rfl, rfl, rfl, rfl, rfl, rfl, rfl,
    fun b hb => assemble_single c (hbyte hb) rfl (encode_byteOf encode_stageByte hb),
    fun t a ht ha => assemble_single c ?rangeEnqueue rfl ?wordEnqueue,
    fun a ha => assemble_single c (hflag ha) rfl ?wordSendDebug, rfl,
    fun b hb => assemble_single c (hbyte hb) rfl (encode_byteOf encode_crcByte hb), rfl,
    fun b hb => assemble_single c (hbyte hb) rfl (encode_byteOf encode_rxByte hb),
    fun m hm => assemble_single c (hbyte hm) rfl ?wordClrErr⟩
  case badByte => exact ⟨refused (okByte_of_lt hb), refused (okByte_of_lt hb), refused (okByte_of_lt hb)⟩
  case badFlag => exact ⟨refused (by simp [Asm.wellFormed, okAck_of_lt ha]), refused (okAck_of_lt ha)⟩
  case badType => simp [Asm.wellFormed, okByte_of_lt ht]
  case badPseudo =>
    refine ⟨fun hbs => ?bytes, fun hbad => refused ?send, fun hbad => refused ?debug, fun hbad => refused ?rxFrame⟩
    case bytes =>
      have hrange := all_okByte_of_lt hbs
      exact ⟨refused hrange, refused hrange, refused hrange, refused hrange⟩
    case send =>
      obtain ht | ha | hbs := hbad
      · simp [Asm.wellFormed, okByte_of_lt ht]
      · simp [Asm.wellFormed, okAck_of_lt ha]
      · rw [Asm.wellFormed, all_okByte_of_lt hbs, Bool.and_false]
    case debug =>
      obtain ha | hbs := hbad
      · simp [Asm.wellFormed, okAck_of_lt ha]
      · rw [Asm.wellFormed, all_okByte_of_lt hbs, Bool.and_false]
    case rxFrame =>
      obtain ht | hbs := hbad
      · simp [Asm.wellFormed, okByte_of_lt ht]
      · rw [Asm.wellFormed, all_okByte_of_lt hbs, Bool.and_false]
  case rangeEnqueue => simp [Asm.wellFormed, hbyte ht, hflag ha]
  case wordEnqueue => rw [encode_enqueue, byteOf_toNat ht, beq_one_toNat ha]
  case wordClrErr => rw [encode_clrErr, byteOf_toNat hm]
  case wordSendDebug => rw [encode_sendDebug, beq_one_toNat ha]

end Sys2Proof.Machine
end

section
/-! Proofs of the obligations about commands at the register port: every command completes (R85), a placed command runs
next, the register map (R39), and the read that follows a command sees its effects (R65). -/

namespace Sys2Proof.Machine

/-- Settles O10: a command commits its effect, whose output is what the channels get. -/
theorem everyCommandCompletes : Obligations.EveryCommandCompletes := fun i s =>
  ⟨_, _, _, _, exec_eq_commit i s, rfl, rfl, rfl, rfl, rfl, rfl⟩

/-- A word is the table word of its number. -/
theorem tableWord_toNat (w : Word) : tableWord 32 w.toNat = w := by
  rw [tableWord, Nat.mod_eq_of_lt w.isLt, BitVec.ofNat_toNat, BitVec.setWidth_eq]

/-- Settles O9: the placed write is served first and its word decodes to the command. -/
theorem placedCommandRuns : Obligations.PlacedCommandRuns := by
  refine ⟨fun s i => ?_, fun s hempty => ?_, fun _ f => nomatch f⟩
  · have hplaced : (s.withFetchWord 32 (encode i).toNat).bus = .write 4 s.cfg.base (encode i) :: s.bus := by
      rw [State.withFetchWord, placeCommand, tableWord_toNat]
      rfl
    exact (step_cmdWrite hplaced).trans (runWord_of_ok (decodeOfEncode i) s)
  · rw [step, serveNext, hempty]

/-- Settles O13: the table by computation, a read by its step, and of the other steps only a write to CMD runs a command. -/
theorem registerMap : Obligations.RegisterMap := by
  refine ⟨rfl, fun _ _ _ hbus => step_read hbus, fun _ _ => ⟨rfl, rfl, rfl, rfl, rfl, rfl, rfl⟩, fun s t h hnotCmd => ?_⟩
  rcases step_cases s with ⟨-, hs⟩ | ⟨r, rest, -, hs⟩ | ⟨w, rest, hbus, -⟩ | ⟨r, w, rest, -, -, hs⟩ | ⟨a, rest, e, -, hs⟩
  case inr.inr.inl => exact absurd hbus (hnotCmd w rest)
  case inr.inr.inr.inr => cases hs.symm.trans h
  all_goals
    cases hs.symm.trans h
    exact ⟨rfl, rfl, rfl, rfl⟩

/-- A word written to CMD has one effect, whatever waits behind it (R84). -/
theorem exists_effect_runWord (w : Word) (s : State) :
    ∃ e, ∀ rest, runWord w { s with bus := rest } = .next ({ s with bus := rest }.commit e) := by
  cases hdecode : decode w with
  | ok i => exact ⟨commandEffect s.cfg s.blk i, fun _ => (runWord_of_ok hdecode _).trans (exec_eq_commit i _)⟩
  | error e =>
    exact ⟨(illegalOp s.blk, Out.empty), fun _ =>
      (runWord_of_error hdecode _).trans (congrArg _ (State.onBlock_eq_commit illegalOp _))⟩

/-- Settles O15: the write commits its word's effect and leaves the read at the head of the port. -/
theorem readSeesTheCommandBefore : Obligations.ReadSeesTheCommandBefore := by
  intro s w r rest hbus
  obtain ⟨e, he⟩ := exists_effect_runWord w s
  exact ⟨_, (step_cmdWrite hbus).trans (he _), he rest, step_read rfl⟩

end Sys2Proof.Machine
end

section
/-! Proof of the obligation of 10_state.md about the writers of each field (R23 to R36, R38, R44 to R46): which fields each
operation with more than one outcome writes, then command by command what follows for every field. -/

namespace Sys2Proof.Machine

/-! The fields that an operation writes: every field it does not name stays -/

/-- TICK counts, and keeps the timer or raises and stops it (R100). -/
theorem tickOp_writes (S : Block) : ∃ armed raised r,
    tickOp S = { S with now := S.now + 1, tmrArmed := armed, tmrRaised := raised, result := r } ∧
    (S.tmrRaised = true → raised = true) := by
  rcases tickOp_cases S with ⟨-, -, ht⟩ | ⟨-, ht⟩
  · exact ⟨_, _, _, ht, fun _ => rfl⟩
  · exact ⟨_, _, _, ht, id⟩

/-- STAGE_BYTE writes the stage and ERR (R109). -/
theorem stageByteOp_writes (c : Config) (b : Byte) (S : Block) : ∃ bs ovf e r,
    stageByteOp c b S = { S with stage := bs, stageOvf := ovf, err := e, result := r } := by
  rcases stageByteOp_cases c b S with ⟨-, hb⟩ | ⟨-, hb⟩ <;> exact ⟨_, _, _, _, hb⟩

/-- `enqueue` writes the queue and ERR (R110). -/
theorem Block.enqueue_writes (c : Config) (t : Byte) (a : Bool) (S : Block) : ∃ q e r,
    Block.enqueue c t a S = { S with q := q, err := e, result := r } := by
  rcases Block.enqueue_cases c t a S with ⟨-, he⟩ | ⟨-, -, he⟩ | ⟨-, -, he⟩ <;> exact ⟨_, _, _, he⟩

/-- RUN writes the transmit side, the mailbox and ERR; it raises no timer and dispatches nothing (R144 to R149). -/
theorem runOp_writes (c : Config) (S : Block) : ∃ st k cur armed deadline raised q e r txd report,
    runOp c S =
      ({ S with
          txState := st, extEvt := .none, retryCnt := k, cur := cur, tmrArmed := armed, tmrDeadline := deadline
          tmrRaised := raised, q := q, err := e, result := r },
        { txd := txd, report := report, dispatch := [] }) ∧
    (S.tmrRaised = false → raised = false) := by
  rcases runOp_cases c S with ⟨-, -, hr⟩ | ⟨r, rest, -, -, -, hr⟩ | ⟨r, rest, -, -, -, hr⟩ | ⟨r, -, -, -, hr⟩ |
    ⟨r, -, -, -, -, -, hr⟩ | ⟨r, -, -, -, -, -, hr⟩ | ⟨-, -, -, hr⟩
  case inr.inl => exact ⟨_, _, _, _, _, _, _, _, _, _, _, hr, fun _ => rfl⟩
  case inr.inr.inr.inr.inl => exact ⟨_, _, _, _, _, _, _, _, _, _, _, hr, fun _ => rfl⟩
  all_goals exact ⟨_, _, _, _, _, _, _, _, _, _, _, hr, id⟩

/-- RX_BYTE writes the receive side, the mailbox and ERR (R160 to R167). -/
theorem rxByteOp_writes (c : Config) (b : Byte) (S : Block) : ∃ st buf x e r out,
    rxByteOp c b S = ({ S with rxState := st, rxBuf := buf, extEvt := x, err := e, result := r }, out) := by
  obtain ⟨e, he⟩ := rxDetermined c b S.rxState S.rxBuf
  exact ⟨_, _, _, _, _, _, he S rfl rfl⟩

/-! The obligation -/

/-- Settles O56: command by command, from the fields that the command writes; every other field is the same after it. -/
theorem onlyTheNamedCommandsWrite : Obligations.OnlyTheNamedCommandsWrite := by
  intro i s t h
  obtain rfl := eq_commit_of_exec h
  cases i with
  | nop | init | stageClear | crcInit | crcByte _ | crcRead | clrErr _ =>
    simp [commandEffect, nopOp, initOp, stageClearOp, crcInitOp, crcByteOp, crcReadOp, clrErrOp]
  | reset => simp [commandEffect, resetOp, Block.reset]
  | tick =>
    obtain ⟨armed, raised, r, ht, hraised⟩ := tickOp_writes s.blk
    simpa [commandEffect, ht] using hraised
  | run =>
    have hraises : ∃ n < 8, raisesBit n .run := ⟨3, by decide, rfl⟩
    obtain ⟨st, k, cur, armed, deadline, raised, q, e, r, txd, report, hr, hraised⟩ := runOp_writes s.cfg s.blk
    simpa [commandEffect, hr, hraises] using hraised
  | setExtEventAck =>
    have hraises : ∃ n < 8, raisesBit n .setExtEventAck := ⟨6, by decide, .inl rfl⟩
    simp [commandEffect, setExtEventOp_eq, hraises]
  | setExtEventNack =>
    have hraises : ∃ n < 8, raisesBit n .setExtEventNack := ⟨6, by decide, .inr (.inl rfl)⟩
    simp [commandEffect, setExtEventOp_eq, hraises]
  | stageByte b =>
    have hraises : ∃ n < 8, raisesBit n (.stageByte b) := ⟨4, by decide, .inl ⟨b, rfl⟩⟩
    obtain ⟨bs, ovf, e, r, hb⟩ := stageByteOp_writes s.cfg b s.blk
    simp [commandEffect, hb, hraises]
  | enqueue ty a =>
    have hraises : ∃ n < 8, raisesBit n (.enqueue ty a) := ⟨2, by decide, .inl ⟨ty, a, rfl⟩⟩
    obtain ⟨q, e, r, he⟩ := Block.enqueue_writes s.cfg ty a s.blk
    simp [commandEffect, he, hraises]
  | sendDebug a =>
    have hraises : ∃ n < 8, raisesBit n (.sendDebug a) := ⟨2, by decide, .inr ⟨a, rfl⟩⟩
    obtain ⟨q, e, r, he⟩ := Block.enqueue_writes s.cfg s.cfg.typeDebug a s.blk
    simp [commandEffect, he, hraises]
  | rxByte b =>
    have hraises : ∃ n < 8, raisesBit n (.rxByte b) := ⟨0, by decide, b, rfl⟩
    obtain ⟨st, buf, x, e, r, out, hr⟩ := rxByteOp_writes s.cfg b s.blk
    simp [commandEffect, hr, hraises]

end Sys2Proof.Machine
end
